-- ==== Sys2Proof/Word.lean ====
section
/-! DEFINITION. The widths of the part (bytes, stations, descriptors, queues, channels, tallies) and
the fixed-size table with its two plain accesses. -/

namespace Sys2Proof

/-- One byte of packet memory, of a frame or of a transaction (R1, R42, R172). -/
abbrev Byte := BitVec 8

/-- A station, station 0 to station 15; also the value of the turn counter (R60). -/
abbrev Station := Fin 16

/-- A descriptor index, descriptor 0 to descriptor 255 (R1). -/
abbrev DescId := Fin 256

/-- A queue, queue 0 to queue 31 (R24). -/
abbrev QueueId := Fin 32

/-- A channel number: TX0 to TX7, or RX0 to RX7 (R84, R111). -/
abbrev ChanId := Fin 8

/-- A tally, 0 to 15; adding 1 goes from 15 to 0 (R100). -/
abbrev Tally := Fin 16

/-- The eight channel numbers in the order in which every treatment takes them (R102, R103, R131). -/
def allChans : List ChanId := [0, 1, 2, 3, 4, 5, 6, 7]

/-- The sixteen stations, station 0 first. -/
def allStations : List Station := [0, 1, 2, 3, 4, 5, 6, 7, 8, 9, 10, 11, 12, 13, 14, 15]

/-- A table of exactly `n` entries. -/
abbrev Table (n : Nat) (α : Type) := Vector α n

variable {n : Nat} {α : Type}

/-- Entry `i` of a table. -/
def look (t : Table n α) (i : Fin n) : α := t[i.val]

/-- The table with entry `i` replaced. -/
def put (t : Table n α) (i : Fin n) (x : α) : Table n α := t.set i.val x

/-- The table whose every entry is `x`. -/
def filled (n : Nat) (x : α) : Table n α := Vector.replicate n x

@[simp] theorem look_put_same (t : Table n α) (i : Fin n) (x : α) : look (put t i x) i = x := by
  simp [look, put]

@[simp] theorem look_put_ne (t : Table n α) {i j : Fin n} (x : α) (h : i ≠ j) :
    look (put t i x) j = look t j := by
  have hv : i.val ≠ j.val := fun e => h (Fin.ext e)
  simp [look, put, hv]

theorem look_put (t : Table n α) (i j : Fin n) (x : α) :
    look (put t i x) j = if i = j then x else look t j := by
  by_cases h : i = j
  · subst h; simp
  · simp [h]

@[simp] theorem look_filled (x : α) (i : Fin n) : look (filled n x) i = x := by
  simp [look, filled]

/-- Two tables that agree at every entry are the same table. -/
theorem table_ext {t u : Table n α} (h : ∀ i, look t i = look u i) : t = u := by
  ext i hi
  exact h ⟨i, hi⟩

end Sys2Proof
end

