-- ==== Sys2Proof/Config.lean ====
section
/-! DEFINITION. The numbers the spec fixes for every part: bit times of the line rates, the limits of the
line's silences and the bounds of the counts. One value is free: what SDO carries in the one stretch for which the
spec gives no value. -/

namespace Sys2Proof.Config

/-- Bit time of each rate code in half microseconds: 4, 2, 1 and 0.5 µs (R41). -/
def bitTime (rate : Fin 4) : Nat :=
  match rate with
  | 0 => 8
  | 1 => 4
  | 2 => 2
  | 3 => 1

/-- Idle line inside a frame that is tolerated, in bit times (R48); JOIN uses the same limit (R56). -/
def idleLimit : Nat := 20

/-- Silence after which the response window expires, in bit times (R63). -/
def windowLimit : Nat := 16

/-- Silence after which the turn gap expires, in bit times (R61). -/
def gapLimit : Nat := 32

/-- Silence after which the listen wait expires, in bit times (R71). -/
def listenLimit : Nat := 640

/-- Silence after which the claim wait of station `a` expires, in bit times (R72). -/
def claimLimit (a : Station) : Nat := (a.val + 1) * 32

/-- Payload bytes of one buffer and of one DATA frame at most (R1, R44). -/
def bufferSize : Nat := 64

/-- Descriptors in a chain at most (R15). -/
def chainLimit : Nat := 16

/-- Bytes of packet memory (R1). -/
def memorySize : Nat := 16384

/-- Sendings of one segment without a reply that fail the message (R98). -/
def attemptsLimit : Nat := 8

/-- LATER replies to one segment that fail the message (R95). -/
def latersLimit : Nat := 64

/-- Own turn starts with an ABSENT destination that fail a message (R103). -/
def absenceLimit : Nat := 4

/-- Misses that make a station ABSENT (R81). -/
def missLimit : Nat := 2

/-- Consecutive collisions that make FAULT (R75). -/
def faultLimit : Nat := 8

/-- Own turns kept silent after adoption in the joining flavour (R68). -/
def quietTurns : Nat := 2

/-- Segments of a partial assembly at most (R111, R118). -/
def partialLimit : Nat := 15

/-- Where the station counters saturate (R164). -/
def counterLimit : Nat := 65535

/-- Where the drop and abandon counters saturate (R135). -/
def channelCounterLimit : Nat := 255

/-- What SDO carries after a hard reset that ended with CS# low, until CS# rises, by the number of bytes clocked: R180
has the bytes ignored and no rule gives the output. A free value: notes/assumptions/21.md. -/
opaque sdoWhileSkipping : Nat → Option Byte

end Sys2Proof.Config
end

