-- ==== Sys2Proof/Syntax.lean ====
section
/-! DEFINITION. The commands: one constructor per row of spec/opcode_table.json, in the table's order. A host
command carries its argument bytes as they are clocked in (R193); a line event carries what the line shows. -/

namespace Sys2Proof

/-- Why a byte makes a frame invalid while it is being received (R47). -/
inductive SkipCause where
  /-- The first byte is no kind code. -/
  | unknownKind (kind : Byte)
  /-- The length byte of a DATA frame is above 64. -/
  | lengthAbove64 (length : Byte)
  /-- A stop bit is sampled low. -/
  | missingStopBit
  deriving DecidableEq, Repr

/-- The commands and events that reach the station, one constructor per row of the table. -/
inductive Instr where
  /-- RESET# low or power-on; the levels of ADR0 to ADR3 when the reset ends, and whether CS# is low then, high where it is
  not said (R180). -/
  | hardReset (adr0 adr1 adr2 adr3 : Bool) (csLow : Bool := false)
  /-- The clearing of packet memory completes (R179). -/
  | startingEnd
  /-- Rate code, marker pool, mask bytes 0 to 3 (R182). -/
  | setLine (rate marker mask0 mask1 mask2 mask3 : Byte)
  /-- Channel, destination station, destination channel, submit queue, notice queue (R183). -/
  | defineTx (n station channel submit notice : Byte)
  /-- Channel, head pool, body pool, delivery queue, policy, patience (R184). -/
  | defineRx (n headPool bodyPool delivery policy patience : Byte)
  /-- Active length and the entry bytes (R185). -/
  | defineSchedule (length : Byte) (entries : List Byte)
  /-- Validate and freeze the configuration (R186). -/
  | fix
  /-- Queue and descriptor (R27). -/
  | push (q d : Byte)
  /-- Queue (R29). -/
  | pop (q : Byte)
  /-- Queue (R30). -/
  | queueStatus (q : Byte)
  /-- Descriptor (R18). -/
  | readDesc (d : Byte)
  /-- Descriptor, fill, next index, next marker, return queue, label (R19, R193). -/
  | writeDesc (d fill nextIndex nextMarker returnQueue label : Byte)
  /-- Descriptor, offset, count (R20). -/
  | readBuffer (d offset count : Byte)
  /-- Descriptor, offset, count, data bytes (R21). -/
  | writeBuffer (d offset count : Byte) (data : List Byte)
  /-- Go on the line (R70). -/
  | join
  /-- Leave the line (R76). -/
  | leave
  /-- Transmit channel (R107). -/
  | enableTx (n : Byte)
  /-- Transmit channel (R108). -/
  | clearTx (n : Byte)
  /-- Transmit channel (R142). -/
  | teardownTx (n : Byte)
  /-- Receive channel (R133). -/
  | enableRx (n : Byte)
  /-- Receive channel (R137). -/
  | haltRx (n : Byte)
  /-- Receive channel (R134). -/
  | clearRx (n : Byte)
  /-- Receive channel (R150). -/
  | teardownRx (n : Byte)
  /-- Station values (R168). -/
  | readStation
  /-- Roster (R169). -/
  | readRoster
  /-- Transmit channel (R170). -/
  | readTx (n : Byte)
  /-- Receive channel (R171). -/
  | readRx (n : Byte)
  /-- Clear option (R165). -/
  | readCounters (option : Byte)
  /-- Event flags (R161). -/
  | readEvents
  /-- Back to UNCONFIGURED (R189). -/
  | restart
  /-- A command byte that names no command (R176). -/
  | unknownCommand (code : Byte)
  /-- The bytes clocked in before CS# rose, no command taken (R175). -/
  | transactionAbort (bytes : List Byte)
  /-- A start bit is recognized (R47). -/
  | frameStart
  /-- A received frame reaches its expected byte count: all its bytes, CRC included (R47, R64). -/
  | frameEnd (bytes : List Byte)
  /-- More than 20 bit times of idle inside a frame (R48). -/
  | idleFrameEnd
  /-- The requested frame begins on TXD (R51). -/
  | ownFrameStart
  /-- The own frame has ended without collision (R51, R69). -/
  | ownFrameEnd
  /-- A read-back bit differs from the bit sent (R53, R74). -/
  | collision
  /-- 16 bit times without a frame start (R63). -/
  | responseWindowExpiry
  /-- 32 bit times without a frame start (R61). -/
  | turnGapExpiry
  /-- 640 bit times of silence while LISTENING (R71). -/
  | listenExpiry
  /-- The claim wait passes without a frame start (R72). -/
  | claimExpiry
  /-- The idle turns of RXn reach its patience (R129). -/
  | patienceExpiry (n : ChanId)
  /-- The absence count of TXn reaches 4 (R103). -/
  | absenceCountLimit (n : ChanId)
  /-- A no-reply outcome of TXn with attempts at 8 (R98). -/
  | attemptsLimit (n : ChanId)
  /-- The laters of TXn reach 64 (R95). -/
  | latersLimit (n : ChanId)
  /-- The consecutive-collision count reaches 8 (R75). -/
  | fault
  /-- The miss count of a station reaches 2 (R81). -/
  | rosterAbsent (station : Station)
  /-- A byte in RECEIVING makes the frame invalid (R47). -/
  | entryToSkipping (cause : SkipCause)
  /-- RXD is low at this moment while the line interface is held; whether it stays low after it, until the next such
  event; not, where it is not said (R56). -/
  | rxdLowWhileHeld (stays : Bool := false)
  deriving DecidableEq, Repr

end Sys2Proof
end

