-- ==== Sys2Proof/Machine/Frame.lean ====
section
/-! DEFINITION. The frames of the station line: their fields (R43 to R45), their bytes (R191), the check
sequence (R46), the reading of received bytes (R47, R192) and the bits on TXD (R42). -/

namespace Sys2Proof.Machine

/-- The codes of a REPLY frame (R45). -/
inductive ReplyCode where
  | taken | seen | later | closed | lost
  deriving DecidableEq, Repr

/-- A DATA frame's fields (R44). FIRST is set exactly when the label is present. -/
structure DataFrame where
  source : Station
  destination : Station
  channel : ChanId
  tally : Tally
  label : Option Byte
  last : Bool
  payload : List Byte
  deriving DecidableEq, Repr

/-- The FIRST flag (R44). -/
def DataFrame.first (f : DataFrame) : Bool := f.label.isSome

/-- A REPLY frame's fields (R45). -/
structure ReplyFrame where
  source : Station
  destination : Station
  channel : ChanId
  tallyEcho : Tally
  code : ReplyCode
  deriving DecidableEq, Repr

/-- The three frames (section 3.3). -/
inductive Frame where
  | pass (source : Station)
  | data (f : DataFrame)
  | reply (f : ReplyFrame)
  deriving DecidableEq, Repr

/-- The source field, which every kind carries. -/
def Frame.source : Frame → Station
  | .pass s => s
  | .data f => f.source
  | .reply f => f.source

/-- PASS and DATA hold a turn; REPLY holds none (R43 to R45). -/
def Frame.holdsTurn : Frame → Bool
  | .pass _ => true
  | .data _ => true
  | .reply _ => false

/-! ## The check sequence (R46) -/

/-- One shift of the CRC register (R46). -/
def crcShift (r : BitVec 16) : BitVec 16 :=
  if r.getLsbD 15 then (r <<< 1) ^^^ 0x1021#16 else r <<< 1

/-- One byte into the CRC register, most significant bit first (R46). -/
def crcByte (r : BitVec 16) (b : Byte) : BitVec 16 :=
  crcShift (crcShift (crcShift (crcShift (crcShift (crcShift (crcShift (crcShift
    (r ^^^ (b.setWidth 16 <<< 8)))))))))

/-- The CRC over bytes in frame order, from FFFFh, without final inversion (R46). -/
def crc (bytes : List Byte) : BitVec 16 := bytes.foldl crcByte 0xFFFF#16

/-- The two CRC bytes, high byte first (R46). -/
def crcBytes (bytes : List Byte) : List Byte :=
  [(crc bytes >>> 8).setWidth 8, (crc bytes).setWidth 8]

/-! ## Frames as bytes (R191) -/

/-- Kind code of PASS (R191). -/
def passKind : Byte := 0x5A#8

/-- Kind code of DATA (R191). -/
def dataKind : Byte := 0x6C#8

/-- Kind code of REPLY (R191). -/
def replyKind : Byte := 0x93#8

/-- Value of a reply code (R191). -/
def replyCodeByte : ReplyCode → Byte
  | .taken => 0x01#8
  | .seen => 0x02#8
  | .later => 0x03#8
  | .closed => 0x04#8
  | .lost => 0x05#8

/-- The reply code of a byte; any other value makes the REPLY invalid (R192). -/
def replyCodeOf (b : Byte) : Option ReplyCode :=
  if b = 0x01#8 then some .taken
  else if b = 0x02#8 then some .seen
  else if b = 0x03#8 then some .later
  else if b = 0x04#8 then some .closed
  else if b = 0x05#8 then some .lost
  else none

/-- A field of four bits in bits 0 to 3 of its byte, the other bits 0 (R191). -/
def nibbleByte (s : Fin 16) : Byte := BitVec.ofNat 8 s.val

/-- A channel in bits 0 to 2 of its byte, the other bits 0 (R191). -/
def channelByte (n : ChanId) : Byte := BitVec.ofNat 8 n.val

/-- Byte 4 of a DATA frame: tally, FIRST in bit 6, LAST in bit 7 (R191). -/
def flagsByte (t : Tally) (first last : Bool) : Byte :=
  BitVec.ofNat 8 (t.val + (if first then 64 else 0) + (if last then 128 else 0))

/-- The label byte, present only when FIRST is set (R191). -/
def labelBytes : Option Byte → List Byte
  | none => []
  | some l => [l]

/-- The bytes of a frame before its CRC (R191). -/
def frameFields : Frame → List Byte
  | .pass s => [passKind, nibbleByte s]
  | .data f =>
    [dataKind, nibbleByte f.source, nibbleByte f.destination, channelByte f.channel,
      flagsByte f.tally f.first f.last, BitVec.ofNat 8 f.payload.length]
      ++ labelBytes f.label ++ f.payload
  | .reply f =>
    [replyKind, nibbleByte f.source, nibbleByte f.destination, channelByte f.channel,
      nibbleByte f.tallyEcho, replyCodeByte f.code]

/-- A frame as it is sent: its field bytes and the CRC over them (R191). -/
def encodeFrame (f : Frame) : List Byte := frameFields f ++ crcBytes (frameFields f)

/-! ## Reading received bytes (R47, R192) -/

/-- The field in bits 0 to 3 of a byte; the other bits are ignored (R192). -/
def nibbleOf (b : Byte) : Fin 16 := ⟨b.toNat % 16, Nat.mod_lt _ (by decide)⟩

/-- The channel in bits 0 to 2 of a byte; the other bits are ignored (R192). -/
def channelOf (b : Byte) : ChanId := ⟨b.toNat % 8, Nat.mod_lt _ (by decide)⟩

/-- The FIRST flag of byte 4 of a DATA frame (R191). -/
def firstOf (b : Byte) : Bool := b.getLsbD 6

/-- The LAST flag of byte 4 of a DATA frame (R191). -/
def lastOf (b : Byte) : Bool := b.getLsbD 7

/-- The byte count the fields received so far fix, when they fix one and the frame is not yet invalid (R47). -/
def expectedCount : List Byte → Option Nat
  | [] => none
  | k :: rest =>
    if k = passKind then some 4
    else if k = replyKind then some 8
    else if k = dataKind then
      match rest with
      | _ :: _ :: _ :: flags :: len :: _ =>
        if len.toNat ≤ Config.bufferSize then
          some (8 + len.toNat + (if firstOf flags then 1 else 0))
        else none
      | _ => none
    else none

/-- These bytes are a whole frame: as many as their own fields give (R47). -/
def frameComplete (bytes : List Byte) : Bool := expectedCount bytes == some bytes.length

/-- The bytes before the two CRC bytes. -/
def beforeCrc (bytes : List Byte) : List Byte := bytes.take (bytes.length - 2)

/-- The CRC computed over the bytes as received matches the two received CRC bytes (R46, R192). -/
def crcMatches (bytes : List Byte) : Bool :=
  bytes.drop (bytes.length - 2) == crcBytes (beforeCrc bytes)

/-- The fields of the bytes before the CRC (R192); none for a REPLY whose code is no reply code (R45). -/
def readFields : List Byte → Option Frame
  | [k, s] => if k = passKind then some (.pass (nibbleOf s)) else none
  | k :: s :: d :: c :: t :: x :: rest =>
    if k = dataKind then
      if firstOf t then
        match rest with
        | l :: payload =>
          some (.data ⟨nibbleOf s, nibbleOf d, channelOf c, nibbleOf t, some l, lastOf t, payload⟩)
        | [] => none
      else some (.data ⟨nibbleOf s, nibbleOf d, channelOf c, nibbleOf t, none, lastOf t, rest⟩)
    else if k = replyKind then
      (replyCodeOf x).map fun code => .reply ⟨nibbleOf s, nibbleOf d, channelOf c, nibbleOf t, code⟩
    else none
  | _ => none

/-- The frame that received bytes carry, when the count, the CRC and a REPLY's code hold (R47, R192). The
response window of a REPLY (R49) is judged where the frame's start is known. -/
def decodeFrame (bytes : List Byte) : Option Frame :=
  if frameComplete bytes && crcMatches bytes then readFields (beforeCrc bytes) else none

/-- The cause does make a frame invalid in RECEIVING (R47). -/
def skipCauseHolds : SkipCause → Bool
  | .unknownKind k => !(k == passKind || k == dataKind || k == replyKind)
  | .lengthAbove64 l => decide (Config.bufferSize < l.toNat)
  | .missingStopBit => true

/-! ## Bits on the line (R42) -/

/-- A byte as ten bits: start bit low, data least significant bit first, stop bit high (R42). -/
def lineBits (b : Byte) : List Bool :=
  false :: [b.getLsbD 0, b.getLsbD 1, b.getLsbD 2, b.getLsbD 3, b.getLsbD 4, b.getLsbD 5, b.getLsbD 6,
    b.getLsbD 7] ++ [true]

/-- The bits of a frame on TXD, the bytes back to back (R42). -/
def frameBits (f : Frame) : List Bool := (encodeFrame f).flatMap lineBits

/-- Whole bit times of high line at the end of a byte: its stop bit and the run of ones before it (R42). -/
def trailingHigh (b : Byte) : Nat :=
  ((lineBits b).reverse.takeWhile id).length

end Sys2Proof.Machine
end

