-- ==== Sys2Proof/Machine/Operands.lean ====
section
/-! DEFINITION. The argument bytes of the host commands: the command codes and the number of argument bytes
(R173), and each byte read as an unsigned number within its command's range (R193). -/

namespace Sys2Proof.Machine

/-- How many argument bytes follow a command code: a fixed number, or a fixed number whose last byte announces
further bytes (R173). -/
inductive ArgCount where
  /-- Exactly `n` argument bytes. -/
  | fixed (n : Nat)
  /-- `n` bytes, the last of which announces the data bytes that follow when it lies in 1 to `limit`. -/
  | counted (n limit : Nat)
  deriving DecidableEq, Repr

/-- The commands of the table at the head of chapter 9; none for a code that names no command (R173, R176). -/
def argCount (code : Byte) : Option ArgCount :=
  match code.toNat with
  | 0x10 => some (.fixed 6)
  | 0x11 => some (.fixed 5)
  | 0x12 => some (.fixed 6)
  | 0x13 => some (.counted 1 32)
  | 0x14 => some (.fixed 0)
  | 0x20 => some (.fixed 2)
  | 0x21 => some (.fixed 1)
  | 0x22 => some (.fixed 1)
  | 0x30 => some (.fixed 1)
  | 0x31 => some (.fixed 6)
  | 0x32 => some (.fixed 3)
  | 0x33 => some (.counted 3 64)
  | 0x40 => some (.fixed 0)
  | 0x41 => some (.fixed 0)
  | 0x50 => some (.fixed 1)
  | 0x51 => some (.fixed 1)
  | 0x52 => some (.fixed 1)
  | 0x58 => some (.fixed 1)
  | 0x59 => some (.fixed 1)
  | 0x5A => some (.fixed 1)
  | 0x5B => some (.fixed 1)
  | 0x60 => some (.fixed 0)
  | 0x61 => some (.fixed 0)
  | 0x62 => some (.fixed 1)
  | 0x63 => some (.fixed 1)
  | 0x64 => some (.fixed 1)
  | 0x65 => some (.fixed 0)
  | 0x7E => some (.fixed 0)
  | _ => none

/-- The byte is a command code (R176). -/
def isCommandCode (code : Byte) : Bool := (argCount code).isSome

/-- How many bytes a counting byte announces: its value in 1 to `limit`, else none (R21, R173, R185). -/
def announced (limit : Nat) (count : Byte) : Nat :=
  if count.toNat ≤ limit then count.toNat else 0

/-- How many argument bytes a transaction that opens with these bytes needs; none when the code is unknown. A
counting byte that has not arrived announces nothing yet (R173). -/
def argsNeeded (code : Byte) (args : List Byte) : Option Nat :=
  match argCount code with
  | none => none
  | some (.fixed n) => some n
  | some (.counted n limit) =>
    some (match args[n - 1]? with
      | some c => n + announced limit c
      | none => n)

/-- A transaction with these bytes has its command taken: the last argument byte has arrived, or the code is
unknown and its byte has ended (R173, R176). -/
def commandTaken : List Byte → Bool
  | [] => false
  | code :: args =>
    match argsNeeded code args with
    | none => true
    | some k => decide (k ≤ args.length)

/-- How many bytes of a transaction had been clocked in when its command was taken; none before the taking (R172,
R173). -/
def takenAfter : List Byte → Option Nat
  | [] => none
  | code :: args =>
    match argsNeeded code args with
    | none => some 1
    | some k => if k ≤ args.length then some (k + 1) else none

/-! ## Argument bytes as numbers in range (R193) -/

/-- A byte as a number below `n`, or none when it is out of range (R193). -/
def inRange (n : Nat) (b : Byte) : Option (Fin n) :=
  if h : b.toNat < n then some ⟨b.toNat, h⟩ else none

/-- A descriptor argument: every value names a descriptor (R193). -/
def descOf (b : Byte) : DescId := ⟨b.toNat, b.isLt⟩

/-- The next argument of WRITE_DESC: index byte and marker byte. The outer option is none for a marker that is
neither 00h nor 01h; with 01h the index is not read (R193). -/
def nextOf (index marker : Byte) : Option (Option DescId) :=
  if marker = 0x00#8 then some (some (descOf index))
  else if marker = 0x01#8 then some none
  else none

/-- A schedule entry byte: 00h to 07h name TX0 to TX7, FFh is EMPTY. The outer option is none for any other
value (R193). -/
def scheduleEntryOf (b : Byte) : Option (Option ChanId) :=
  if h : b.toNat < 8 then some (some ⟨b.toNat, h⟩)
  else if b = 0xFF#8 then some none
  else none

/-- All entry bytes of a schedule, or none when one of them names neither a channel nor EMPTY (R185). -/
def scheduleOf : List Byte → Option (List (Option ChanId))
  | [] => some []
  | b :: bs =>
    match scheduleEntryOf b, scheduleOf bs with
    | some e, some es => some (e :: es)
    | _, _ => none

/-- The attention mask of four bytes: bit b of mask byte k is the flag of queue 8k + b (R193). -/
def maskOf (m0 m1 m2 m3 : Byte) : BitVec 32 := m3 ++ m2 ++ m1 ++ m0

/-- The own address from the strap levels, ADR0 the least significant bit (R180). -/
def strapAddress (adr0 adr1 adr2 adr3 : Bool) : Station :=
  (if adr0 then 1 else 0) + (if adr1 then 2 else 0) + (if adr2 then 4 else 0) + (if adr3 then 8 else 0)

end Sys2Proof.Machine
end

