-- ==== Sys2Proof/WellFormed.lean ====
section
/-! DEFINITION. Which terms of Instr describe something that can reach the station: a transaction whose bytes
are those its code and counting byte ask for, a frame whose byte count is the one its own fields give, a byte that
does make a frame invalid. -/

namespace Sys2Proof

open Sys2Proof.Machine

/-- The command or event can occur as written. -/
def wellFormed : Instr → Bool
  | .defineSchedule len entries => entries.length == announced 32 len
  | .writeBuffer _ _ count data => data.length == announced 64 count
  | .unknownCommand code => !isCommandCode code
  | .transactionAbort bytes => !commandTaken bytes
  | .frameEnd bytes => frameComplete bytes
  | .entryToSkipping cause => skipCauseHolds cause
  | .hardReset _ _ _ _ _ => true
  | .startingEnd => true
  | .setLine _ _ _ _ _ _ => true
  | .defineTx _ _ _ _ _ => true
  | .defineRx _ _ _ _ _ _ => true
  | .fix => true
  | .push _ _ => true
  | .pop _ => true
  | .queueStatus _ => true
  | .readDesc _ => true
  | .writeDesc _ _ _ _ _ _ => true
  | .readBuffer _ _ _ => true
  | .join => true
  | .leave => true
  | .enableTx _ => true
  | .clearTx _ => true
  | .teardownTx _ => true
  | .enableRx _ => true
  | .haltRx _ => true
  | .clearRx _ => true
  | .teardownRx _ => true
  | .readStation => true
  | .readRoster => true
  | .readTx _ => true
  | .readRx _ => true
  | .readCounters _ => true
  | .readEvents => true
  | .restart => true
  | .frameStart => true
  | .idleFrameEnd => true
  | .ownFrameStart => true
  | .ownFrameEnd => true
  | .collision => true
  | .responseWindowExpiry => true
  | .turnGapExpiry => true
  | .listenExpiry => true
  | .claimExpiry => true
  | .patienceExpiry _ => true
  | .absenceCountLimit _ => true
  | .attemptsLimit _ => true
  | .latersLimit _ => true
  | .fault => true
  | .rosterAbsent _ => true
  | .rxdLowWhileHeld _ => true

end Sys2Proof
end

