-- ==== Sys2Proof/Decode.lean ====
section
/-! DEFINITION. From bytes to commands. The table gives its rows no bits, so no word spells a command
(`decodeTableWord`); what spells a command is the sequence of bytes a transaction clocks in (R172, R173, R193),
which `decodeTransaction` reads and `encodeTransaction` writes. -/

namespace Sys2Proof

open Sys2Proof.Machine

/-- The command of a word under the table's bits: the table gives none. -/
def decodeTableWord (_nbits _w : Nat) : Option Instr := none

/-- The command a known code names, from its argument bytes in the order of R193; none while an argument byte
is missing. Bytes past the last argument byte are ignored (R172). -/
def decodeArgs (code : Byte) (args : List Byte) : Option Instr :=
  match code.toNat, args with
  | 0x10, r :: m :: m0 :: m1 :: m2 :: m3 :: _ => some (.setLine r m m0 m1 m2 m3)
  | 0x11, n :: st :: ch :: su :: no :: _ => some (.defineTx n st ch su no)
  | 0x12, n :: hp :: bp :: dq :: po :: pa :: _ => some (.defineRx n hp bp dq po pa)
  | 0x13, len :: entries =>
    if announced 32 len ≤ entries.length then
      some (.defineSchedule len (entries.take (announced 32 len)))
    else none
  | 0x14, _ => some .fix
  | 0x20, q :: d :: _ => some (.push q d)
  | 0x21, q :: _ => some (.pop q)
  | 0x22, q :: _ => some (.queueStatus q)
  | 0x30, d :: _ => some (.readDesc d)
  | 0x31, d :: f :: ni :: nm :: rq :: l :: _ => some (.writeDesc d f ni nm rq l)
  | 0x32, d :: o :: c :: _ => some (.readBuffer d o c)
  | 0x33, d :: o :: c :: data =>
    if announced 64 c ≤ data.length then some (.writeBuffer d o c (data.take (announced 64 c))) else none
  | 0x40, _ => some .join
  | 0x41, _ => some .leave
  | 0x50, n :: _ => some (.enableTx n)
  | 0x51, n :: _ => some (.clearTx n)
  | 0x52, n :: _ => some (.teardownTx n)
  | 0x58, n :: _ => some (.enableRx n)
  | 0x59, n :: _ => some (.haltRx n)
  | 0x5A, n :: _ => some (.clearRx n)
  | 0x5B, n :: _ => some (.teardownRx n)
  | 0x60, _ => some .readStation
  | 0x61, _ => some .readRoster
  | 0x62, n :: _ => some (.readTx n)
  | 0x63, n :: _ => some (.readRx n)
  | 0x64, o :: _ => some (.readCounters o)
  | 0x65, _ => some .readEvents
  | 0x7E, _ => some .restart
  | _, _ => none

/-- What a transaction does whose bytes, from the fall to the rise of CS#, are these: the command it takes
(R173), an unknown command (R176), or nothing (R175). -/
def decodeTransaction : List Byte → Instr
  | [] => .transactionAbort []
  | code :: args =>
    if isCommandCode code then
      match decodeArgs code args with
      | some i => i
      | none => .transactionAbort (code :: args)
    else .unknownCommand code

/-- The bytes of the transaction that brings a command, in the order of R193; none for an event that no
transaction brings. -/
def encodeTransaction : Instr → Option (List Byte)
  | .setLine r m m0 m1 m2 m3 => some [0x10#8, r, m, m0, m1, m2, m3]
  | .defineTx n st ch su no => some [0x11#8, n, st, ch, su, no]
  | .defineRx n hp bp dq po pa => some [0x12#8, n, hp, bp, dq, po, pa]
  | .defineSchedule len entries => some (0x13#8 :: len :: entries)
  | .fix => some [0x14#8]
  | .push q d => some [0x20#8, q, d]
  | .pop q => some [0x21#8, q]
  | .queueStatus q => some [0x22#8, q]
  | .readDesc d => some [0x30#8, d]
  | .writeDesc d f ni nm rq l => some [0x31#8, d, f, ni, nm, rq, l]
  | .readBuffer d o c => some [0x32#8, d, o, c]
  | .writeBuffer d o c data => some (0x33#8 :: d :: o :: c :: data)
  | .join => some [0x40#8]
  | .leave => some [0x41#8]
  | .enableTx n => some [0x50#8, n]
  | .clearTx n => some [0x51#8, n]
  | .teardownTx n => some [0x52#8, n]
  | .enableRx n => some [0x58#8, n]
  | .haltRx n => some [0x59#8, n]
  | .clearRx n => some [0x5A#8, n]
  | .teardownRx n => some [0x5B#8, n]
  | .readStation => some [0x60#8]
  | .readRoster => some [0x61#8]
  | .readTx n => some [0x62#8, n]
  | .readRx n => some [0x63#8, n]
  | .readCounters o => some [0x64#8, o]
  | .readEvents => some [0x65#8]
  | .restart => some [0x7E#8]
  | .unknownCommand code => some [code]
  | .transactionAbort bytes => some bytes
  | .hardReset _ _ _ _ _ => none
  | .startingEnd => none
  | .frameStart => none
  | .frameEnd _ => none
  | .idleFrameEnd => none
  | .ownFrameStart => none
  | .ownFrameEnd => none
  | .collision => none
  | .responseWindowExpiry => none
  | .turnGapExpiry => none
  | .listenExpiry => none
  | .claimExpiry => none
  | .patienceExpiry _ => none
  | .absenceCountLimit _ => none
  | .attemptsLimit _ => none
  | .latersLimit _ => none
  | .fault => none
  | .rosterAbsent _ => none
  | .entryToSkipping _ => none
  | .rxdLowWhileHeld _ => none

end Sys2Proof
end

