-- ==== Sys2Proof/Machine/State.lean ====
section
/-! DEFINITION. The state of the station: every piece of state the spec gives its blocks, as plain data, and its
value after a hard reset. ATTN#, DRV, TXD and SDO are read off this state (Flags.lean, Results.lean, Turn.lean). -/

namespace Sys2Proof.Machine

/-! ## Descriptors (section 1.2) -/

/-- The status field of a descriptor (section 1.2). -/
inductive DescStatus where
  | none | received | delivered | cancelled | closed | lost | noAnswer | peerBusy | absent | malformed | marker
  deriving DecidableEq, Repr

/-- The ownership state of a descriptor, with the queue or channel it names (section 1.3). -/
inductive Owner where
  | host
  | queued (q : QueueId)
  | linked
  | transit (n : ChanId)
  | building (n : ChanId)
  deriving DecidableEq, Repr

/-- The descriptor record (section 1.2). -/
structure Desc where
  /-- 0 to 64 (R3). -/
  fill : Nat
  /-- A descriptor or NONE (R4). -/
  next : Option DescId
  returnQueue : QueueId
  label : Byte
  status : DescStatus
  peer : Station
  channel : ChanId
  /-- 0 to 1024 (R6). -/
  total : Nat
  /-- 0 to 16 (R6). -/
  segments : Nat
  owner : Owner
  deriving DecidableEq, Repr

/-- The record every descriptor has after a hard reset or RESTART (R22, R23). -/
def Desc.reset : Desc :=
  { fill := 0, next := none, returnQueue := 0, label := 0, status := .none, peer := 0, channel := 0,
    total := 0, segments := 0, owner := .host }

/-- Packet memory: byte `j` of buffer `i` stands at address 64 i + j; addresses strictly rising, no entry holds
00h, which is what an unlisted address reads (R1, R22). -/
abbrev Memory := List Host.Cell

/-! ## Transmit channels (section 5.1) -/

/-- The states of a transmit channel (R84). -/
inductive TxState where
  | disabled | idle | active | tearing | halted
  deriving DecidableEq, Repr

/-- The definition fields of a transmit channel (R83). -/
structure TxDef where
  station : Station
  channel : ChanId
  submit : QueueId
  notice : QueueId
  deriving DecidableEq, Repr

/-- A transmit channel's context (section 5.1). The definition is absent while the channel is undefined. -/
structure TxChan where
  defn : Option TxDef
  state : TxState
  /-- Message in hand. -/
  msg : Option DescId
  /-- Current segment. -/
  cur : Option DescId
  tally : Tally
  /-- 0 to 8. -/
  attempts : Nat
  /-- 0 to 64. -/
  laters : Nat
  /-- Absence count, 0 to 4. -/
  absence : Nat
  doubt : Bool
  outstanding : Bool
  deriving DecidableEq, Repr

/-- An undefined transmit channel with the running values of R83. -/
def TxChan.reset : TxChan :=
  { defn := none, state := .disabled, msg := none, cur := none, tally := 0, attempts := 0, laters := 0,
    absence := 0, doubt := false, outstanding := false }

/-! ## Receive channels (section 6.1) -/

/-- The states of a receive channel (R111). -/
inductive RxState where
  | disabled | idle | assembling | discarding | halted
  deriving DecidableEq, Repr

/-- What a receive channel does when a pool it needs is empty (R125, R126). -/
inductive Policy where
  | refuse | drop
  deriving DecidableEq, Repr

/-- The definition fields of a receive channel (R110). -/
structure RxDef where
  headPool : QueueId
  bodyPool : QueueId
  delivery : QueueId
  policy : Policy
  /-- 1 to 255. -/
  patience : Nat
  deriving DecidableEq, Repr

/-- A partial assembly (R111). -/
structure Assembly where
  head : DescId
  tail : DescId
  /-- Segment count, 1 to 15. -/
  count : Nat
  /-- Length so far. -/
  length : Nat
  deriving DecidableEq, Repr

/-- A receive channel's context (section 6.1). -/
structure RxChan where
  defn : Option RxDef
  state : RxState
  source : Option Station
  part : Option Assembly
  label : Byte
  /-- Idle turns, 0 to 255. -/
  idle : Nat
  progress : Bool
  /-- Drop counter, 0 to 255. -/
  drops : Nat
  /-- Abandon counter, 0 to 255. -/
  abandons : Nat
  deriving DecidableEq, Repr

/-- An undefined receive channel with the running values of R136. -/
def RxChan.reset : RxChan :=
  { defn := none, state := .disabled, source := none, part := none, label := 0, idle := 0, progress := false,
    drops := 0, abandons := 0 }

/-! ## Configuration (R188) -/

/-- The configuration apart from the channel definitions (section 9.3). -/
structure LineConfig where
  rate : Fin 4
  markerPool : QueueId
  /-- Bit q is the flag of queue q (R39, R193). -/
  mask : BitVec 32
  /-- Each entry names a transmit channel or is EMPTY (R86). -/
  schedule : Table 32 (Option ChanId)
  /-- The active length L, 1 to 32 (R86). -/
  length : Nat
  deriving DecidableEq, Repr

/-- The configuration after a hard reset and after RESTART (R188). -/
def LineConfig.reset : LineConfig :=
  { rate := 0, markerPool := 0, mask := 0, schedule := filled 32 none, length := 1 }

/-! ## Station and turn controller (chapter 4) -/

/-- The six station states (R178). -/
inductive StationState where
  | starting | unconfigured | offline | listening | online | leaving
  deriving DecidableEq, Repr

/-- The listening flavour (chapter 4). -/
inductive Flavour where
  | joining | resync
  deriving DecidableEq, Repr

/-- The timer of the turn controller that runs; at most one does (R61, R63, R71, R72). -/
inductive Timer where
  | stopped | turnGap | responseWindow | listenWait | claimWait
  deriving DecidableEq, Repr

/-- The turn controller's own state but for the roster (chapter 4). -/
structure TurnControl where
  /-- Turn counter (R60). -/
  counter : Station
  flavour : Flavour
  /-- Quiet count, 0 to 2 (R68). -/
  quiet : Nat
  /-- Consecutive-collision count, 0 to 8 (R75). -/
  collided : Nat
  timer : Timer
  /-- The current turn is an own turn reached by a turn end or a claim, not by a slip (R66, R67). -/
  ownTurn : Bool
  deriving DecidableEq, Repr

/-- The turn controller after a hard reset and after RESTART (R82). -/
def TurnControl.reset : TurnControl :=
  { counter := 0, flavour := .joining, quiet := 0, collided := 0, timer := .stopped, ownTurn := false }

/-- The state of a roster entry (R79). -/
inductive Presence where
  | unknown | present | absent
  deriving DecidableEq, Repr

/-- A roster entry (R79). -/
structure RosterEntry where
  state : Presence
  /-- 0 to 2. -/
  misses : Nat
  deriving DecidableEq, Repr

/-- A roster entry after a reset and at JOIN (R79). -/
def RosterEntry.reset : RosterEntry := { state := .unknown, misses := 0 }

/-! ## Line interface (section 3.5) -/

/-- Where the start of a heard frame fell (R62, R63). -/
inductive Began where
  /-- In the turn gap. -/
  | gap
  /-- In an open response window. -/
  | window
  /-- Anywhere else: while LISTENING, or before a claim PASS. -/
  | other
  deriving DecidableEq, Repr

/-- What the line interface keeps of the frame it hears (R49, R50, R54, R56). -/
structure Heard where
  began : Began
  /-- The frame did not begin in SKIPPING, so an invalid verdict is counted (R50). -/
  counted : Bool
  /-- The frame is the remainder of an own collision (R54). -/
  remainder : Bool
  deriving DecidableEq, Repr

/-- The states of the line interface (section 3.5). -/
inductive Line where
  | quiet
  | receiving (h : Heard)
  | skipping (h : Heard)
  | sending (f : Frame)
  deriving DecidableEq, Repr

/-! ## Status unit (chapter 8) -/

/-- The names of the event flags (R159). -/
inductive Event where
  | fault | noMarker | slip | abandon | drop | malformed
  deriving DecidableEq, Repr

/-- The six event flags (R159). -/
structure Events where
  fault : Bool
  noMarker : Bool
  slip : Bool
  abandon : Bool
  drop : Bool
  malformed : Bool
  deriving DecidableEq, Repr

/-- Every flag clear (R159). -/
def Events.clear : Events :=
  { fault := false, noMarker := false, slip := false, abandon := false, drop := false, malformed := false }

/-- The names of the station counters (R163). -/
inductive Counter where
  | dataSent | passSent | replySent | invalidHeard | slips | collisions | unanswered
  deriving DecidableEq, Repr

/-- The seven station counters, each 0 to 65535 (R163). -/
structure Counters where
  dataSent : Nat
  passSent : Nat
  replySent : Nat
  invalidHeard : Nat
  slips : Nat
  collisions : Nat
  unanswered : Nat
  deriving DecidableEq, Repr

/-- Every station counter 0 (R164). -/
def Counters.zero : Counters :=
  { dataSent := 0, passSent := 0, replySent := 0, invalidHeard := 0, slips := 0, collisions := 0,
    unanswered := 0 }

/-! ## The station -/

/-- The whole state of the station and the commands that wait for it. -/
structure State where
  /-- Station state (R178). -/
  station : StationState
  /-- Own address (R180). -/
  ownAddr : Station
  /-- Descriptor table (section 1.2). -/
  descs : Table 256 Desc
  /-- Packet memory (R1). -/
  mem : Memory
  /-- Queues, oldest entry first (R24). -/
  queues : Table 32 (List DescId)
  /-- Transmit channels (R84). -/
  tx : Table 8 TxChan
  /-- Receive channels (R111). -/
  rx : Table 8 RxChan
  /-- Tally table, by receive channel and source (R112). -/
  tallies : Table 8 (Table 16 (Option Tally))
  /-- Configuration (R188). -/
  cfg : LineConfig
  /-- Schedule cursor (R86). -/
  cursor : Nat
  /-- Turn controller (chapter 4). -/
  turn : TurnControl
  /-- Roster (R79). -/
  roster : Table 16 RosterEntry
  /-- Line interface (section 3.5). -/
  line : Line
  /-- The frame requested and not yet started (R51, R52). -/
  request : Option Frame
  /-- Half microseconds since RXD was last low, kept up to 161 (R56). -/
  sinceLow : Nat
  /-- RXD is low while the line interface is held; clear while it watches RXD (R56). -/
  rxdLow : Bool
  /-- Event flags (R159). -/
  events : Events
  /-- Station counters (R163). -/
  counters : Counters
  /-- Status byte and result bytes of the last taken command, while its transaction stands (R174). -/
  answer : List Byte
  /-- CS# was low when the hard reset ended and has not risen since: the bytes clocked in are ignored (R180). -/
  portSkips : Bool
  /-- The commands that wait, first in first out (the model's own field). -/
  pending : List Instr
  deriving DecidableEq, Repr

/-- The station right after a hard reset with every strap low (R22, R40, R56, R82, R83, R86, R136, R159, R164,
R188). DESIGN CHOICE: own address 0, RXD high, CS# high: notes/assumptions/1.md, notes/assumptions/8.md,
notes/assumptions/21.md. -/
def State.reset : State :=
  { station := .starting
    ownAddr := 0
    descs := filled 256 Desc.reset
    mem := []
    queues := filled 32 []
    tx := filled 8 TxChan.reset
    rx := filled 8 RxChan.reset
    tallies := filled 8 (filled 16 none)
    cfg := LineConfig.reset
    cursor := 0
    turn := TurnControl.reset
    roster := filled 16 RosterEntry.reset
    line := .quiet
    request := none
    sinceLow := 0
    rxdLow := false
    events := Events.clear
    counters := Counters.zero
    answer := []
    portSkips := false
    pending := [] }

/-- What stops the station: nothing does. The spec gives every command and event an effect in every station
state, so no meaning raises a fault. -/
inductive Fault
  deriving DecidableEq, Repr

/-- Why a command has no meaning in this model. -/
inductive Refusal where
  /-- Raised by exec's arm of a command not modelled yet; no arm does. Safe: the model stops. -/
  | notModelled (mnemonic : String)
  deriving DecidableEq, Repr

end Sys2Proof.Machine
end

