-- ==== Sys2Proof/Machine/Ops.lean ====
section
/-! DEFINITION. The named accesses to the state, packet memory, chains, queues and the claims on them (chapters
1 and 2): what the host commands and the engines share. -/

namespace Sys2Proof.Machine

/-! ## Packet memory (R1, R22) -/

/-- The byte at an address; an unlisted address reads 00h (R22). -/
def Memory.read : Memory → Nat → Byte
  | [], _ => 0
  | (x, v) :: m, a => if a = x then v else Memory.read m a

/-- Memory with one byte written, in the canonical form. -/
def Memory.write : Memory → Nat → Byte → Memory
  | [], a, b => if b = 0 then [] else [(a, b)]
  | (x, v) :: m, a, b =>
    if a < x then (if b = 0 then (x, v) :: m else (a, b) :: (x, v) :: m)
    else if a = x then (if b = 0 then m else (a, b) :: m)
    else (x, v) :: Memory.write m a b

/-- Memory with bytes written from an address on, in order (R21, R2). -/
def Memory.writeBytes : Memory → Nat → List Byte → Memory
  | m, _, [] => m
  | m, a, b :: bs => Memory.writeBytes (m.write a b) (a + 1) bs

/-- `count` bytes from an address on. -/
def Memory.readBytes (m : Memory) (a count : Nat) : List Byte :=
  (List.range count).map fun i => m.read (a + i)

/-- Every address of the list is above `lo` and below the end of packet memory, they rise strictly, and no entry
holds 00h. -/
def Memory.sortedAbove : Nat → Memory → Bool
  | _, [] => true
  | lo, (x, v) :: m =>
    decide (lo ≤ x) && decide (x < Config.memorySize) && decide (v ≠ 0) && Memory.sortedAbove (x + 1) m

/-- The canonical form of packet memory. -/
def Memory.wf (m : Memory) : Bool := Memory.sortedAbove 0 m

/-- The address of byte `j` of buffer `d` (R1). -/
def bufferAddr (d : DescId) (j : Nat) : Nat := Config.bufferSize * d.val + j

/-! ## Named accesses -/

/-- A descriptor's record. -/
def State.desc (s : State) (d : DescId) : Desc := look s.descs d

/-- The state with a descriptor's record replaced. -/
def State.setDesc (s : State) (d : DescId) (x : Desc) : State := { s with descs := put s.descs d x }

/-- The state with a descriptor's ownership state changed (section 1.3). -/
def State.setOwner (s : State) (d : DescId) (o : Owner) : State := s.setDesc d { s.desc d with owner := o }

/-- The state with the ownership state of several descriptors changed in one step (R7). -/
def State.setOwners (s : State) : List DescId → Owner → State
  | [], _ => s
  | d :: ds, o => (s.setOwner d o).setOwners ds o

/-- The entries of a queue, oldest first (R24). -/
def State.queue (s : State) (q : QueueId) : List DescId := look s.queues q

/-- The state with a queue's entries replaced. -/
def State.setQueue (s : State) (q : QueueId) (l : List DescId) : State := { s with queues := put s.queues q l }

/-- A transmit channel's context. -/
def State.txc (s : State) (n : ChanId) : TxChan := look s.tx n

/-- The state with a transmit channel's context replaced. -/
def State.setTx (s : State) (n : ChanId) (c : TxChan) : State := { s with tx := put s.tx n c }

/-- A receive channel's context. -/
def State.rxc (s : State) (n : ChanId) : RxChan := look s.rx n

/-- The state with a receive channel's context replaced. -/
def State.setRx (s : State) (n : ChanId) (c : RxChan) : State := { s with rx := put s.rx n c }

/-- The tally entry of a receive channel for a source (R112). -/
def State.tallyOf (s : State) (n : ChanId) (src : Station) : Option Tally := look (look s.tallies n) src

/-- The state with one tally entry replaced (R112, R113). -/
def State.setTally (s : State) (n : ChanId) (src : Station) (t : Option Tally) : State :=
  { s with tallies := put s.tallies n (put (look s.tallies n) src t) }

/-- The state with a receive channel's 16 tally entries NONE (R113). -/
def State.clearTallyRow (s : State) (n : ChanId) : State :=
  { s with tallies := put s.tallies n (filled 16 none) }

/-- The roster entry of a station (R79). -/
def State.rosterOf (s : State) (a : Station) : RosterEntry := look s.roster a

/-- The state with one roster entry replaced. -/
def State.setRoster (s : State) (a : Station) (e : RosterEntry) : State := { s with roster := put s.roster a e }

/-- Bytes of a buffer from an offset on (R1). -/
def State.buffer (s : State) (d : DescId) (offset count : Nat) : List Byte :=
  s.mem.readBytes (bufferAddr d offset) count

/-- The state with bytes written into a buffer from an offset on (R1, R21). -/
def State.writeBuffer (s : State) (d : DescId) (offset : Nat) (bytes : List Byte) : State :=
  { s with mem := s.mem.writeBytes (bufferAddr d offset) bytes }

/-! ## Chains (R15, R27) -/

/-- The descriptors reached from a head by next links, at most `fuel` of them (R15). -/
def chainFrom (descs : Table 256 Desc) : Nat → DescId → List DescId
  | 0, _ => []
  | fuel + 1, d =>
    d :: match (look descs d).next with
      | none => []
      | some e => chainFrom descs fuel e

/-- The chain of a head: at most 16 descriptors (R15). -/
def State.chain (s : State) (d : DescId) : List DescId := chainFrom s.descs Config.chainLimit d

/-- How the walk of PUSH ends (R27). -/
inductive Walk where
  /-- Every descriptor reached is HOST and the last has next NONE. -/
  | held (members : List DescId)
  /-- A repeat or a 17th descriptor. -/
  | badChain
  /-- A descriptor that is not HOST. -/
  | notHeld
  deriving DecidableEq, Repr

/-- The walk of PUSH from a descriptor, given those already reached in order: a repeat, then a 17th place, then
ownership (R27). -/
def walkFrom (descs : Table 256 Desc) : Nat → List DescId → DescId → Walk
  | 0, _, _ => .badChain
  | fuel + 1, seen, d =>
    if d ∈ seen then .badChain
    else if Config.chainLimit ≤ seen.length then .badChain
    else if (look descs d).owner ≠ .host then .notHeld
    else match (look descs d).next with
      | none => .held (seen ++ [d])
      | some e => walkFrom descs fuel (seen ++ [d]) e

/-- The walk of PUSH from its descriptor (R27). -/
def State.walk (s : State) (d : DescId) : Walk := walkFrom s.descs (Config.chainLimit + 1) [] d

/-- The shape check on the fills of a chain, in chain order (R16). -/
def shapeOk (fills : List Nat) : Bool :=
  match fills with
  | [] => false
  | [f] => decide (f ≤ Config.bufferSize)
  | _ =>
    fills.dropLast.all (fun f => f == Config.bufferSize)
      && decide (1 ≤ fills.getLastD 0) && decide (fills.getLastD 0 ≤ Config.bufferSize)

/-- The fills of some descriptors, in order. -/
def State.fills (s : State) (ds : List DescId) : List Nat := ds.map fun d => (s.desc d).fill

/-! ## Queue moves (R8, R10, R13, R26) -/

/-- The chain of `d` becomes one entry at the tail of queue `q`: `d` QUEUED(q), its members LINKED (R10, R28). -/
def State.pushChain (s : State) (q : QueueId) (d : DescId) : State :=
  let members := (s.chain d).tail
  let s := (s.setOwners members .linked).setOwner d (.queued q)
  s.setQueue q (s.queue q ++ [d])

/-- A pool pop (R11, R33): the head of the oldest entry is taken with next NONE; the rest of its chain becomes a
new entry at the pool's tail. None when the pool is empty. The taken descriptor's new owner is the caller's. -/
def State.poolPop (s : State) (q : QueueId) : Option (DescId × State) :=
  match s.queue q with
  | [] => none
  | h :: rest =>
    let x := s.desc h
    let s1 := s.setDesc h { x with next := none }
    match x.next with
    | none => some (h, s1.setQueue q rest)
    | some e => some (h, (s1.setOwner e (.queued q)).setQueue q (rest ++ [e]))

/-- A descriptor returned from a partial assembly: fill 0, next NONE, an entry of its own at the tail of its pool
(R13, R34). -/
def State.returnToPool (s : State) (q : QueueId) (d : DescId) : State :=
  let s := s.setDesc d { s.desc d with fill := 0, next := none, owner := .queued q }
  s.setQueue q (s.queue q ++ [d])

/-- Several descriptors returned to one pool, in order (R13). -/
def State.returnAll (s : State) (q : QueueId) : List DescId → State
  | [] => s
  | d :: ds => (s.returnToPool q d).returnAll q ds

/-- The part hands a transmit head back: status, peer and channel are written and the whole chain goes to the
return queue the head names (R5, R6, R10). -/
def State.handBack (s : State) (h : DescId) (st : DescStatus) (peer : Station) (n : ChanId) : State :=
  let s := s.setDesc h { s.desc h with status := st, peer := peer, channel := n }
  s.pushChain (s.desc h).returnQueue h

/-- The oldest entry of a queue is handed back without passing through TRANSIT (R10, R31); an empty queue changes
nothing. -/
def State.handBackOldest (s : State) (q : QueueId) (st : DescStatus) (peer : Station) (n : ChanId) : State :=
  match s.queue q with
  | [] => s
  | h :: rest => (s.setQueue q rest).handBack h st peer n

/-- Each of the `k` oldest entries of a queue is handed back, oldest first, each once (R31, R146). -/
def State.flush (s : State) (q : QueueId) (st : DescStatus) (peer : Station) (n : ChanId) : Nat → State
  | 0 => s
  | k + 1 => (s.handBackOldest q st peer n).flush q st peer n k

end Sys2Proof.Machine
end

