-- ==== Sys2Proof/Machine/Flags.lean ====
section
/-! DEFINITION. The status unit: event flags, counters and the attention output (chapter 8, R39, R160, R164). -/

namespace Sys2Proof.Machine

/-- The flags with one of them set (R159). -/
def Events.set (e : Events) : Event → Events
  | .fault => { e with fault := true }
  | .noMarker => { e with noMarker := true }
  | .slip => { e with slip := true }
  | .abandon => { e with abandon := true }
  | .drop => { e with drop := true }
  | .malformed => { e with malformed := true }

/-- At least one flag is set (R160). -/
def Events.any (e : Events) : Bool :=
  e.fault || e.noMarker || e.slip || e.abandon || e.drop || e.malformed

/-- The state with an event flag set (R159). -/
def State.raise (s : State) (e : Event) : State := { s with events := s.events.set e }

/-- A count raised by one that stays at its limit (R135, R164). -/
def saturate (limit n : Nat) : Nat := if n < limit then n + 1 else limit

/-- A station counter raised by one (R163, R164). -/
def countUp (n : Nat) : Nat := saturate Config.counterLimit n

/-- The counters with one of them raised (R163). -/
def Counters.raise (c : Counters) : Counter → Counters
  | .dataSent => { c with dataSent := countUp c.dataSent }
  | .passSent => { c with passSent := countUp c.passSent }
  | .replySent => { c with replySent := countUp c.replySent }
  | .invalidHeard => { c with invalidHeard := countUp c.invalidHeard }
  | .slips => { c with slips := countUp c.slips }
  | .collisions => { c with collisions := countUp c.collisions }
  | .unanswered => { c with unanswered := countUp c.unanswered }

/-- The state with a station counter raised (R163). -/
def State.count (s : State) (c : Counter) : State := { s with counters := s.counters.raise c }

/-- Queue `q` is in the attention mask (R39). -/
def State.masked (s : State) (q : QueueId) : Bool := s.cfg.mask.getLsbD q.val

/-- The 32 queues. -/
def allQueues : List QueueId := List.finRange 32

/-- ATTN# is driven low: a masked queue has an entry or an event flag is set (R39, R160). -/
def State.attnLow (s : State) : Bool :=
  s.events.any || allQueues.any fun q => s.masked q && !(s.queue q).isEmpty

end Sys2Proof.Machine
end

