-- ==== Sys2Proof/Machine/Results.lean ====
section
/-! DEFINITION. What a taken command answers: the nine status codes (R177, R194), the encodings of result values
(R194) and the records the reads return (R195, R196). -/

namespace Sys2Proof.Machine

/-- The status codes of the host port (R177). -/
inductive Status where
  | done | empty | wrongState | notHeld | badChain | badArgument | badConfig | badCommand | starting
  deriving DecidableEq, Repr

/-- The value of a status code (R194). -/
def statusByte : Status → Byte
  | .done => 0xA0#8
  | .empty => 0xA1#8
  | .wrongState => 0xA2#8
  | .notHeld => 0xA3#8
  | .badChain => 0xA4#8
  | .badArgument => 0xA5#8
  | .badConfig => 0xA6#8
  | .badCommand => 0xA7#8
  | .starting => 0xA8#8

/-- The answer of a taken command stands ready: its status byte and its result bytes (R173, R174). -/
def State.answering (s : State) (st : Status) (results : List Byte) : State :=
  { s with answer := statusByte st :: results }

/-- A refused command: its status byte alone, and nothing else changes (R177). -/
def State.refuse (s : State) (st : Status) : State := s.answering st []

/-- Byte `k` on SDO after the taking, counted from 0: past the last result byte it reads 00h (R174). -/
def State.sdoByte (s : State) (k : Nat) : Byte := s.answer.getD k 0

/-- A transaction that ends without a command taken: no answer stands, and the rise of CS# ends the ignoring of bytes
after a hard reset (R175, R180). -/
def State.nothingTaken (s : State) : State := { s with answer := [], portSkips := false }

/-- A command's transaction at the host port: its bytes are ignored while the port waits for CS# to rise after a hard
reset (R180); while the station is STARTING every command answers STARTING and has no effect; otherwise `act` (R178,
R179). -/
def State.atPort (s : State) (act : State) : State :=
  if s.portSkips then s.nothingTaken
  else if s.station = .starting then s.refuse .starting
  else act

/-- What SDO carries while the next byte is clocked, from the bytes clocked in since the fall of CS#; CS# high: SDO is
released. Before the taking SDO carries 00h, after it the status byte, the result bytes and then 00h (R172, R174). In
the stretch that R180 has ignored the spec gives no value: notes/assumptions/21.md. -/
def State.sdo (s : State) : Option (List Byte) → Option Byte
  | none => none
  | some bytes =>
    if s.portSkips then Config.sdoWhileSkipping bytes.length
    else match takenAfter bytes with
      | none => some 0x00#8
      | some k => some (s.sdoByte (bytes.length - k))

/-! ## Encodings (R194) -/

/-- A number that fits one byte. -/
def byteOf (n : Nat) : Byte := BitVec.ofNat 8 n

/-- A number in two bytes, most significant first (chapter 10). -/
def wordBytes (n : Nat) : List Byte := [byteOf (n / 256), byteOf n]

/-- Yes or no, set or clear (R194). -/
def flagByte (b : Bool) : Byte := if b then 0x01#8 else 0x00#8

/-- A descriptor reference: index and marker byte (R194). -/
def refBytes : Option DescId → List Byte
  | none => [0x00#8, 0x01#8]
  | some d => [byteOf d.val, 0x00#8]

/-- A station or tally that may be absent (R194). -/
def maybeByte : Option (Fin 16) → Byte
  | none => 0xFF#8
  | some t => byteOf t.val

/-! ## The descriptor record (R195) -/

/-- The code of a descriptor status (R195). -/
def descStatusByte : DescStatus → Byte
  | .none => 0x00#8
  | .received => 0x01#8
  | .delivered => 0x02#8
  | .cancelled => 0x03#8
  | .closed => 0x04#8
  | .lost => 0x05#8
  | .noAnswer => 0x06#8
  | .peerBusy => 0x07#8
  | .absent => 0x08#8
  | .malformed => 0x09#8
  | .marker => 0x0A#8

/-- The ownership state and its qualifier (R195). -/
def ownerBytes : Owner → List Byte
  | .host => [0x00#8, 0x00#8]
  | .queued q => [0x01#8, byteOf q.val]
  | .linked => [0x02#8, 0x00#8]
  | .transit n => [0x03#8, byteOf n.val]
  | .building n => [0x04#8, byteOf n.val]

/-- The record READ_DESC returns (R195). -/
def descRecord (d : Desc) : List Byte :=
  [byteOf d.fill] ++ refBytes d.next
    ++ [byteOf d.returnQueue.val, d.label, descStatusByte d.status, byteOf d.peer.val, byteOf d.channel.val]
    ++ wordBytes d.total ++ [byteOf d.segments] ++ ownerBytes d.owner

/-! ## The status reads (R196) -/

/-- The code of a station state. STARTING is never returned (R168); 00h stands for it here. -/
def stationByte : StationState → Byte
  | .starting => 0x00#8
  | .unconfigured => 0x01#8
  | .offline => 0x02#8
  | .listening => 0x03#8
  | .online => 0x04#8
  | .leaving => 0x05#8

/-- The code of a listening flavour (R196). -/
def flavourByte : Flavour → Byte
  | .joining => 0x00#8
  | .resync => 0x01#8

/-- What READ_STATION returns (R168, R196). -/
def stationRecord (s : State) : List Byte :=
  [stationByte s.station, flavourByte s.turn.flavour, byteOf s.ownAddr.val, byteOf s.turn.counter.val,
    byteOf s.turn.quiet, byteOf s.turn.collided]

/-- The two bits of a roster state (R196). -/
def presenceBits : Presence → Nat
  | .unknown => 0
  | .present => 1
  | .absent => 2

/-- One byte of READ_ROSTER: state in bits 0 to 1, misses in bits 2 to 3 (R196). -/
def rosterByte (e : RosterEntry) : Byte := byteOf (presenceBits e.state + 4 * e.misses)

/-- What READ_ROSTER returns: one byte per station, station 0 first (R169, R196). -/
def rosterRecord (s : State) : List Byte := allStations.map fun a => rosterByte (s.rosterOf a)

/-- The code of a transmit channel state (R196). -/
def txStateByte : TxState → Byte
  | .disabled => 0x00#8
  | .idle => 0x01#8
  | .active => 0x02#8
  | .tearing => 0x03#8
  | .halted => 0x04#8

/-- What READ_TX returns (R170, R196). -/
def txRecord (c : TxChan) : List Byte :=
  [flagByte c.defn.isSome, txStateByte c.state] ++ refBytes c.msg ++ refBytes c.cur
    ++ [byteOf c.tally.val, byteOf c.attempts, byteOf c.laters, byteOf c.absence,
      byteOf ((if c.doubt then 1 else 0) + (if c.outstanding then 2 else 0))]

/-- The code of a receive channel state (R196). -/
def rxStateByte : RxState → Byte
  | .disabled => 0x00#8
  | .idle => 0x01#8
  | .assembling => 0x02#8
  | .discarding => 0x03#8
  | .halted => 0x04#8

/-- The partial fields of READ_RX: head, tail, segment count, length so far (R171, R196). -/
def partBytes : Option Assembly → List Byte
  | none => refBytes none ++ refBytes none ++ [byteOf 0] ++ wordBytes 0
  | some p => refBytes (some p.head) ++ refBytes (some p.tail) ++ [byteOf p.count] ++ wordBytes p.length

/-- What READ_RX returns: a receive channel's context and its tally row (R171, R196). -/
def rxRecord (c : RxChan) (row : List (Option Tally)) : List Byte :=
  [flagByte c.defn.isSome, rxStateByte c.state, maybeByte c.source] ++ partBytes c.part
    ++ [c.label, byteOf c.idle, flagByte c.progress, byteOf c.drops, byteOf c.abandons] ++ row.map maybeByte

/-- A receive channel's tally row, source 0 first (R171). -/
def State.tallyRow (s : State) (n : ChanId) : List (Option Tally) := allStations.map fun a => s.tallyOf n a

/-- What READ_COUNTERS returns: the station counters in the order of R163, then drop and abandon counter of each
receive channel (R165, R196). -/
def counterRecord (s : State) : List Byte :=
  wordBytes s.counters.dataSent ++ wordBytes s.counters.passSent ++ wordBytes s.counters.replySent
    ++ wordBytes s.counters.invalidHeard ++ wordBytes s.counters.slips ++ wordBytes s.counters.collisions
    ++ wordBytes s.counters.unanswered
    ++ allChans.flatMap fun n => [byteOf (s.rxc n).drops, byteOf (s.rxc n).abandons]

/-- What READ_EVENTS returns: bit 0 FAULT to bit 5 MALFORMED (R196). -/
def eventByte (e : Events) : Byte :=
  byteOf ((if e.fault then 1 else 0) + (if e.noMarker then 2 else 0) + (if e.slip then 4 else 0)
    + (if e.abandon then 8 else 0) + (if e.drop then 16 else 0) + (if e.malformed then 32 else 0))

end Sys2Proof.Machine
end

