-- ==== Sys2Proof/Machine/Teardown.lean ====
section
/-! DEFINITION. The teardown logic that serves both engines: the marker (R14, R35, R147, R153 to R155). -/

namespace Sys2Proof.Machine

/-- The record of a marker (R153): return queue, label and segments are kept. -/
def markerRecord (x : Desc) (peer : Station) (n : ChanId) (total : Nat) (target : QueueId) : Desc :=
  { x with fill := 0, next := none, status := .marker, peer := peer, channel := n, total := total,
           owner := .queued target }

/-- A completed teardown takes a marker from the marker pool, writes it and pushes it to `target`; an empty pool
gives no marker and sets NO_MARKER (R35, R147, R154, R155). -/
def State.pushMarker (s : State) (target : QueueId) (peer : Station) (n : ChanId) (total : Nat) : State :=
  match s.poolPop s.cfg.markerPool with
  | none => s.raise .noMarker
  | some (m, s1) =>
    let s2 := s1.setDesc m (markerRecord (s1.desc m) peer n total target)
    s2.setQueue target (s2.queue target ++ [m])

end Sys2Proof.Machine
end

