-- ==== Sys2Proof/Machine/Receive.lean ====
section
/-! DEFINITION. The receive engine: abandonment, patience, the reply decision, delivery and starvation (chapter 6,
R150). -/

namespace Sys2Proof.Machine

/-! ## The end of an assembly or discard (R13, R128) -/

/-- The channel is ASSEMBLING or DISCARDING. -/
def RxChan.busy (c : RxChan) : Bool := c.state == .assembling || c.state == .discarding

/-- The channel is ASSEMBLING or DISCARDING from a source. -/
def RxChan.busyFrom (c : RxChan) (src : Station) : Bool := c.busy && c.source == some src

/-- The channel is ASSEMBLING from a source. -/
def RxChan.assemblingFrom (c : RxChan) (src : Station) : Bool := c.state == .assembling && c.source == some src

/-- The channel is DISCARDING from a source. -/
def RxChan.discardingFrom (c : RxChan) (src : Station) : Bool := c.state == .discarding && c.source == some src

/-- A channel's context with no message in progress, in a given state (R127, R128, R133, R134). -/
def RxChan.atRest (c : RxChan) (st : RxState) : RxChan :=
  { c with state := st, source := none, part := none, idle := 0, progress := false }

/-- The partial of a channel goes back to its pools in chain order: the head to the head pool, each body descriptor
to the body pool (R13, R34, R128). No partial: nothing. -/
def State.returnPartial (s : State) (n : ChanId) : State :=
  match (s.rxc n).defn, (s.rxc n).part with
  | some df, some p =>
    (s.returnToPool df.headPool p.head).returnAll df.bodyPool (s.chain p.head).tail
  | _, _ => s

/-- The abandonment of a partial, or the end of a discard counted as one, with the channel left in a given state
(R128, R135, R137). -/
def State.abandonTo (s : State) (n : ChanId) (st : RxState) : State :=
  let s := s.returnPartial n
  let c := (s.rxc n).atRest st
  (s.setRx n { c with abandons := saturate Config.channelCounterLimit c.abandons }).raise .abandon

/-- Abandonment of a channel that is ASSEMBLING or DISCARDING; any other is left as it is (R130, R131). -/
def State.abandonIfBusy (s : State) (n : ChanId) : State :=
  if (s.rxc n).busy then s.abandonTo n .idle else s

/-! ## Patience, absence, OFFLINE, JOIN (R113, R129 to R131) -/

/-- A turn end of station `owner` at one channel (R129). -/
def State.patienceOf (s : State) (owner : Station) (n : ChanId) : State :=
  match (s.rxc n).defn with
  | none => s
  | some df =>
    let c := s.rxc n
    if c.busyFrom owner then
      if c.progress then s.setRx n { c with progress := false }
      else
        let s := s.setRx n { c with idle := c.idle + 1 }
        if df.patience ≤ (s.rxc n).idle then s.abandonTo n .idle else s
    else s

/-- A turn end of station `owner` at the receive engine (R65, R129). R129 gives no order among channels whose patience
expires at one turn end and which share a pool. DESIGN CHOICE: RX0 to RX7, notes/assumptions/20.md. -/
def State.countPatience (s : State) (owner : Station) : State :=
  allChans.foldl (fun s n => s.patienceOf owner n) s

/-- A roster change to ABSENT at one channel: the tally entry of the source becomes NONE and an assembly or discard
from it ends (R130). -/
def State.sourceAbsent (s : State) (a : Station) (n : ChanId) : State :=
  let s := s.setTally n a none
  if (s.rxc n).busyFrom a then s.abandonTo n .idle else s

/-- A roster change to ABSENT at the receive engine, RX0 to RX7 (R130). -/
def State.rxAbsent (s : State) (a : Station) : State := allChans.foldl (fun s n => s.sourceAbsent a n) s

/-- The entry to OFFLINE at one channel: an assembly or discard ends, and idle turns and progress are left 0 and clear
in every channel (R131, R136). -/
def State.chanOffline (s : State) (n : ChanId) : State :=
  let s := s.abandonIfBusy n
  s.setRx n { s.rxc n with idle := 0, progress := false }

/-- The entry to OFFLINE at the receive engine, RX0 to RX7 (R131). -/
def State.rxOffline (s : State) : State := allChans.foldl State.chanOffline s

/-- Every tally entry NONE (R113). -/
def State.clearTallies (s : State) : State := { s with tallies := filled 8 (filled 16 none) }

/-! ## The reply decision (R114 to R127) -/

/-- A frame violates the message shape at a channel (R118). -/
def shapeViolation (c : RxChan) (f : DataFrame) : Bool :=
  (!f.last && f.payload.length != Config.bufferSize)
    || (f.last && !f.first && f.payload.length == 0)
    || (!f.first && !f.last && c.assemblingFrom f.source
        && (match c.part with
            | some p => p.count == Config.partialLimit
            | none => false))

/-- The delivered head's fields (R6, R127). -/
def deliveredRecord (x : Desc) (src : Station) (n : ChanId) (label : Byte) (p : Assembly) : Desc :=
  { x with status := .received, peer := src, channel := n, label := label, total := p.length,
           segments := p.count }

/-- The partial of a channel is delivered and the channel becomes IDLE (R12, R127). -/
def State.deliver (s : State) (n : ChanId) (src : Station) : State :=
  match (s.rxc n).defn, (s.rxc n).part with
  | some df, some p =>
    let s1 := s.setDesc p.head (deliveredRecord (s.desc p.head) src n (s.rxc n).label p)
    (s1.pushChain df.delivery p.head).setRx n ((s.rxc n).atRest .idle)
  | _, _ => s

/-- A segment is stored in a descriptor taken from a pool: payload, fill and ownership (R2, R3, R11). -/
def State.storeSegment (s : State) (n : ChanId) (d : DescId) (f : DataFrame) : State :=
  let s := s.writeBuffer d 0 f.payload
  s.setDesc d { s.desc d with fill := f.payload.length, owner := .building n }

/-- The tally entry for the frame's source becomes the frame's tally (R112). -/
def State.recordTally (s : State) (n : ChanId) (f : DataFrame) : State := s.setTally n f.source (some f.tally)

/-- A FIRST segment accepted into a descriptor begins a partial, delivered at once when LAST is set (R121). -/
def State.acceptFirst (s : State) (n : ChanId) (d : DescId) (f : DataFrame) : State :=
  let s := (s.storeSegment n d f).recordTally n f
  let s := s.setRx n { s.rxc n with
    state := .assembling, source := some f.source, label := f.label.getD 0, idle := 0, progress := true,
    part := some { head := d, tail := d, count := 1, length := f.payload.length } }
  if f.last then s.deliver n f.source else s

/-- A later segment accepted into a descriptor extends the partial, delivered at once when LAST is set (R122). -/
def State.acceptNext (s : State) (n : ChanId) (p : Assembly) (d : DescId) (f : DataFrame) : State :=
  let s := (s.storeSegment n d f).recordTally n f
  let s := s.setDesc p.tail { s.desc p.tail with next := some d }
  let s := s.setRx n { s.rxc n with
    idle := 0, progress := true,
    part := some { head := p.head, tail := d, count := p.count + 1, length := p.length + f.payload.length } }
  if f.last then s.deliver n f.source else s

/-- DROP starvation: any partial goes back uncounted, the rest of the message is thrown away, and the drop counter
and the DROP event record it (R126). -/
def State.dropSegment (s : State) (n : ChanId) (f : DataFrame) : State :=
  let s := (s.returnPartial n).recordTally n f
  let c := s.rxc n
  (s.setRx n { c with
    state := if f.last then .idle else .discarding
    source := if f.last then none else some f.source
    part := none, idle := 0, progress := true
    drops := saturate Config.channelCounterLimit c.drops }).raise .drop

/-- A segment meets an empty pool: LATER and no change under REFUSE, TAKEN under DROP (R125, R126). -/
def State.starve (s : State) (n : ChanId) (policy : Policy) (f : DataFrame) : ReplyCode × State :=
  match policy with
  | .refuse => (.later, s)
  | .drop => (.taken, s.dropSegment n f)

/-- Step 6 of the decision: a FIRST segment is answered from the head pool (R121). -/
def State.decideFirst (s : State) (n : ChanId) (df : RxDef) (f : DataFrame) : ReplyCode × State :=
  match s.poolPop df.headPool with
  | none => s.starve n df.policy f
  | some (d, s1) => (.taken, s1.acceptFirst n d f)

/-- Step 7 of the decision: a later segment is answered from the body pool (R122). -/
def State.decideNext (s : State) (n : ChanId) (df : RxDef) (p : Assembly) (f : DataFrame) : ReplyCode × State :=
  match s.poolPop df.bodyPool with
  | none => s.starve n df.policy f
  | some (d, s1) => (.taken, s1.acceptNext n p d f)

/-- Step 8 of the decision: a later segment of a discarded message is answered TAKEN unstored (R123). -/
def State.discardNext (s : State) (n : ChanId) (f : DataFrame) : State :=
  let s := s.recordTally n f
  let c := { s.rxc n with idle := 0, progress := true }
  s.setRx n (if f.last then { c with state := .idle, source := none } else c)

/-- The answer SEEN: progress for an assembly or discard from the source (R117). -/
def State.seenAgain (s : State) (n : ChanId) (f : DataFrame) : State :=
  if (s.rxc n).busyFrom f.source then s.setRx n { s.rxc n with idle := 0, progress := true } else s

/-- The answer LOST to a shape violation: an assembly or discard from the source ends, counted (R118). -/
def State.violated (s : State) (n : ChanId) (f : DataFrame) : State :=
  if (s.rxc n).busyFrom f.source then s.abandonTo n .idle else s

/-- The reply decision of a channel on a DATA frame: its answer and the state it leaves, by the ordered conditions
of R115. -/
def State.replyDecision (s : State) (n : ChanId) (f : DataFrame) : ReplyCode × State :=
  let c := s.rxc n
  match c.defn with
  | none => (.closed, s)
  | some df =>
    if c.state = .disabled ∨ c.state = .halted then (.closed, s)
    else if s.tallyOf n f.source = some f.tally then (.seen, s.seenAgain n f)
    else if shapeViolation c f then (.lost, s.violated n f)
    else if f.first then
      if c.busy && !(c.busyFrom f.source) then (.later, s)
      else if c.assemblingFrom f.source then (s.abandonTo n .idle).decideFirst n df f
      else s.decideFirst n df f
    else if c.assemblingFrom f.source then
      match c.part with
      | some p => s.decideNext n df p f
      | none => (.lost, s)
    else if c.discardingFrom f.source then (.taken, s.discardNext n f)
    else (.lost, s)

/-- The REPLY that carries a decision's answer (R114). -/
def replyTo (own : Station) (f : DataFrame) (code : ReplyCode) : ReplyFrame :=
  { source := own, destination := f.source, channel := f.channel, tallyEcho := f.tally, code := code }

/-- A valid DATA frame handed to the receive engine: a frame addressed to a station that is ONLINE with quiet count
0 gets the decision of its channel, and the REPLY is requested; any other changes nothing (R59, R114). -/
def State.heardData (s : State) (f : DataFrame) : State :=
  if f.destination = s.ownAddr ∧ s.station = .online ∧ s.turn.quiet = 0 then
    let r := s.replyDecision f.channel f
    { r.2 with request := some (.reply (replyTo s.ownAddr f r.1)) }
  else s

/-! ## Receive teardown (R150) -/

/-- The completion of a receive teardown: the partial goes back uncounted, a marker with total 1 for a returned
partial is pushed, the tally row becomes NONE and the channel becomes DISABLED (R150, R153). -/
def State.completeRxTeardown (s : State) (n : ChanId) : State :=
  match (s.rxc n).defn with
  | none => s
  | some df =>
    let total := if (s.rxc n).part.isSome then 1 else 0
    let s := s.returnPartial n
    let s := s.pushMarker df.delivery s.ownAddr n total
    let s := s.clearTallyRow n
    s.setRx n ((s.rxc n).atRest .disabled)

end Sys2Proof.Machine
end

