-- ==== Sys2Proof/Machine/Transmit.lean ====
section
/-! DEFINITION. The transmit engine: the end of a message, the reply outcomes, absence and interruption, the
completion of a teardown, and the choice of a frame at own turn start (chapter 5, R142 to R148). -/

namespace Sys2Proof.Machine

/-! ## The end of a message (R94, R99) -/

/-- The state of a channel whose message has ended: HALTED for CLOSED, else IDLE; a TEARING channel stays TEARING
(R99, R109). -/
def stateAfterEnd (c : TxChan) (st : DescStatus) : TxState :=
  if c.state = .tearing then .tearing else if st = .closed then .halted else .idle

/-- A channel's context after the end of its message: attempts, laters and doubt return to 0 or clear, and an
entry to HALTED returns the absence count to 0 (R85). -/
def TxChan.ended (c : TxChan) (st : DescStatus) : TxChan :=
  { c with msg := none, cur := none, attempts := 0, laters := 0, doubt := false,
           state := stateAfterEnd c st,
           absence := if stateAfterEnd c st = .halted then 0 else c.absence }

/-- The message in hand ends with a status: its head is handed back with the whole chain, and the channel's
context is that of an ended message (R10, R94, R99). No message in hand: nothing. -/
def State.endMessage (s : State) (n : ChanId) (st : DescStatus) : State :=
  match (s.txc n).defn, (s.txc n).msg with
  | some df, some h => (s.handBack h st df.station n).setTx n ((s.txc n).ended st)
  | _, _ => s

/-- The tally of a channel advances by one, from 15 to 0 (R100). -/
def State.advanceTally (s : State) (n : ChanId) : State := s.setTx n { s.txc n with tally := (s.txc n).tally + 1 }

/-- "The message fails with X": it ends with that status, and the tally advances when doubt was set (R99). -/
def State.failMessage (s : State) (n : ChanId) (st : DescStatus) : State :=
  if (s.txc n).msg.isSome && (s.txc n).doubt then (s.advanceTally n).endMessage n st else s.endMessage n st

/-- The current segment is the LAST of the message in hand (R91). -/
def State.atLast (s : State) (n : ChanId) : Bool :=
  match (s.txc n).cur with
  | some d => (s.desc d).next.isNone
  | none => true

/-- The descriptor after the current segment. -/
def State.nextSegment (s : State) (n : ChanId) : Option DescId :=
  match (s.txc n).cur with
  | some d => (s.desc d).next
  | none => none

/-! ## Reply outcomes (R94 to R98) -/

/-- TAKEN or SEEN: the tally advances; the message is delivered, or its next segment becomes current (R94). -/
def State.outcomeTaken (s : State) (n : ChanId) : State :=
  if s.atLast n then (s.advanceTally n).endMessage n .delivered
  else s.setTx n { s.txc n with tally := (s.txc n).tally + 1, cur := s.nextSegment n, attempts := 0,
                                laters := 0, doubt := false }

/-- LATER: laters rises and attempts returns to 0; laters at 64 fail the message with PEER_BUSY (R95). -/
def State.outcomeLater (s : State) (n : ChanId) : State :=
  let s := s.setTx n { s.txc n with laters := (s.txc n).laters + 1, attempts := 0 }
  if Config.latersLimit ≤ (s.txc n).laters then s.failMessage n .peerBusy else s

/-- No reply: it is counted and sets doubt; attempts at 8 fail the message with NO_ANSWER (R92, R98). -/
def State.outcomeNone (s : State) (n : ChanId) : State :=
  let s := (s.count .unanswered).setTx n { s.txc n with doubt := true }
  if Config.attemptsLimit ≤ (s.txc n).attempts then s.failMessage n .noAnswer else s

/-- The effect of a reply outcome, none standing for no reply (R93 to R98). -/
def State.outcomeEffect (s : State) (n : ChanId) (o : Option ReplyCode) : State :=
  match o with
  | some .taken => s.outcomeTaken n
  | some .seen => s.outcomeTaken n
  | some .later => s.outcomeLater n
  | some .closed => s.failMessage n .closed
  | some .lost => s.failMessage n .lost
  | none => s.outcomeNone n

/-- A reply outcome applied to the outstanding channel; outstanding clears when it has been applied (R93). -/
def State.applyOutcome (s : State) (n : ChanId) (o : Option ReplyCode) : State :=
  let s := s.outcomeEffect n o
  s.setTx n { s.txc n with outstanding := false }

/-! ## Teardown completion (R144 to R148) -/

/-- A channel's context once its teardown has completed (R148). -/
def TxChan.tornDown (c : TxChan) : TxChan :=
  { c with state := .disabled, msg := none, cur := none, attempts := 0, laters := 0, absence := 0,
           doubt := false, outstanding := false }

/-- The completion of a transmit teardown: the message in hand is cancelled, the submit queue is flushed, a marker
with the number of cancelled messages is pushed, and the channel becomes DISABLED (R144 to R148). The messages are the
one in hand and those waiting when the completion begins, each counted once (R147, R155): notes/assumptions/12.md.
Among those waiting is a message that the reply outcome has just ended onto this submit queue, which R145 does not cancel
or count and R146 flushes with the rest. DESIGN CHOICE: R146 is followed, notes/assumptions/22.md. -/
def State.completeTeardown (s : State) (n : ChanId) : State :=
  match (s.txc n).defn with
  | none => s
  | some df =>
    let messages := (if (s.txc n).msg.isSome then 1 else 0) + (s.queue df.submit).length
    let s := s.failMessage n .cancelled
    let s := s.flush df.submit .cancelled df.station n (s.queue df.submit).length
    let s := s.pushMarker df.notice df.station n messages
    s.setTx n (s.txc n).tornDown

/-! ## Own turn end (R93, R109) -/

/-- The channel whose outstanding flag is set; at most one is (R84). -/
def State.outstandingChan (s : State) : Option ChanId := allChans.find? fun n => (s.txc n).outstanding

/-- The reply of the frame that ended the own turn counts for a channel: it is a REPLY whose source, destination,
channel and tally echo all match (R93). -/
def State.replyFor (s : State) (n : ChanId) : Option Frame → Option ReplyCode
  | some (.reply r) =>
    match (s.txc n).defn with
    | some df =>
      if r.source = df.station ∧ r.destination = s.ownAddr ∧ r.channel = df.channel
          ∧ r.tallyEcho = (s.txc n).tally then some r.code else none
    | none => none
  | _ => none

/-- A TEARING channel completes its teardown; any other is left as it is (R109). -/
def State.finishTearing (s : State) (n : ChanId) : State :=
  if (s.txc n).state = .tearing then s.completeTeardown n else s

/-- The end of an own turn, or the collision that ends it, at the transmit engine: the outstanding channel takes
its outcome from the frame that ended the turn, and a TEARING channel then completes its teardown (R93, R109). -/
def State.ownTurnEnds (s : State) (answer : Option Frame) : State :=
  match s.outstandingChan with
  | none => s
  | some n => (s.applyOutcome n (s.replyFor n answer)).finishTearing n

/-! ## Absence and interruption (R102 to R105) -/

/-- The message in hand is rewound: the head becomes the current segment (R102, R105). -/
def TxChan.rewound (c : TxChan) : TxChan :=
  { c with cur := c.msg, attempts := 0, laters := 0, doubt := false }

/-- The absence treatment of one channel whose destination has become ABSENT (R102). -/
def State.absenceTreatment (s : State) (a : Station) (n : ChanId) : State :=
  match (s.txc n).defn with
  | none => s
  | some df =>
    if df.station = a ∧ (s.txc n).msg.isSome then
      if (s.txc n).doubt then s.failMessage n .noAnswer
      else if (s.txc n).cur ≠ (s.txc n).msg then s.setTx n (s.txc n).rewound
      else s
    else s

/-- A roster change to ABSENT at the transmit engine, TX0 to TX7 (R102). -/
def State.txAbsent (s : State) (a : Station) : State := allChans.foldl (fun s n => s.absenceTreatment a n) s

/-- A roster change out of ABSENT at the transmit engine: the channels toward the station set their absence count
to 0 (R104). -/
def State.txReturned (s : State) (a : Station) : State :=
  allChans.foldl (fun s n =>
    match (s.txc n).defn with
    | some df => if df.station = a then s.setTx n { s.txc n with absence := 0 } else s
    | none => s) s

/-- The interruption treatment of one channel (R105). -/
def State.interruptChan (s : State) (n : ChanId) : State :=
  match (s.txc n).defn with
  | none => s
  | some _ =>
    let s := s.setTx n { s.txc n with absence := 0 }
    if (s.txc n).msg.isSome then
      let s := if (s.txc n).doubt then s.failMessage n .noAnswer else s.setTx n (s.txc n).rewound
      s.setTx n { s.txc n with outstanding := false }
    else s

/-- The exit from ONLINE at the transmit engine, TX0 to TX7 (R105). -/
def State.interrupt (s : State) : State := allChans.foldl State.interruptChan s

/-! ## Own turn start (R87 to R92, R103) -/

/-- The roster entry of a station is ABSENT. -/
def State.isAbsent (s : State) (a : Station) : Bool := (s.rosterOf a).state == .absent

/-- A channel has work: a message in hand, or an entry on its submit queue (R103). -/
def State.hasWork (s : State) (n : ChanId) (df : TxDef) : Bool :=
  (s.txc n).msg.isSome || !(s.queue df.submit).isEmpty

/-- A channel counts absence at this own turn start: IDLE or ACTIVE, destination ABSENT, with work (R103). -/
def State.countsAbsence (s : State) (n : ChanId) (df : TxDef) : Bool :=
  ((s.txc n).state == .idle || (s.txc n).state == .active) && s.isAbsent df.station && s.hasWork n df

/-- The absence count has reached 4: the message in hand fails with ABSENT, or the oldest submit queue entry is
handed back ABSENT, and the count returns to 0 (R103). -/
def State.absenceExpires (s : State) (n : ChanId) (df : TxDef) : State :=
  let s :=
    if (s.txc n).msg.isSome then s.failMessage n .absent
    else s.handBackOldest df.submit .absent df.station n
  s.setTx n { s.txc n with absence := 0 }

/-- One channel's absence count at own turn start (R103). -/
def State.advanceAbsence (s : State) (n : ChanId) : State :=
  match (s.txc n).defn with
  | none => s
  | some df =>
    if s.countsAbsence n df then
      let s := s.setTx n { s.txc n with absence := (s.txc n).absence + 1 }
      if Config.absenceLimit ≤ (s.txc n).absence then s.absenceExpires n df else s
    else s

/-- A channel is eligible at a schedule entry (R87). -/
def State.eligible (s : State) (n : ChanId) : Bool :=
  match (s.txc n).defn with
  | none => false
  | some df =>
    !s.isAbsent df.station
      && ((s.txc n).state == .active || ((s.txc n).state == .idle && !(s.queue df.submit).isEmpty))

/-- A take from a channel's submit queue: a chain that passes the shape check becomes the message in hand; one that
fails goes to its return queue MALFORMED (R9, R31, R89). -/
def State.take (s : State) (n : ChanId) : State :=
  match (s.txc n).defn with
  | none => s
  | some df =>
    match s.queue df.submit with
    | [] => s
    | h :: rest =>
      if shapeOk (s.fills (s.chain h)) then
        let s1 := (s.setQueue df.submit rest).setOwners (s.chain h) (.transit n)
        s1.setTx n { s1.txc n with msg := some h, cur := some h, attempts := 0, laters := 0, doubt := false,
                                   state := .active }
      else (s.handBackOldest df.submit .malformed df.station n).raise .malformed

/-- The entry after entry `e` of a schedule of active length `len` (R88). -/
def entryAfter (len e : Nat) : Nat := if e + 1 < len then e + 1 else 0

/-- The channel an entry names, if any (R86). -/
def State.scheduled (s : State) (e : Nat) : Option ChanId :=
  if h : e < 32 then look s.cfg.schedule ⟨e, h⟩ else none

/-- The scan of at most `k` entries from entry `e`: the state after its takes, and the channel chosen (R88). -/
def State.scan (s : State) : Nat → Nat → State × Option ChanId
  | 0, _ => (s, none)
  | k + 1, e =>
    match s.scheduled e with
    | none => s.scan k (entryAfter s.cfg.length e)
    | some n =>
      if s.eligible n then
        let s1 := if (s.txc n).state = .active then s else s.take n
        if (s1.txc n).state = .active then ({ s1 with cursor := entryAfter s1.cfg.length e }, some n)
        else s1.scan k (entryAfter s.cfg.length e)
      else s.scan k (entryAfter s.cfg.length e)

/-- The DATA frame of a channel's current segment (R91). -/
def State.dataFrame (s : State) (n : ChanId) : Option DataFrame :=
  match (s.txc n).defn, (s.txc n).msg, (s.txc n).cur with
  | some df, some h, some d =>
    some { source := s.ownAddr, destination := df.station, channel := df.channel, tally := (s.txc n).tally,
           label := if d = h then some (s.desc h).label else none,
           last := (s.desc d).next.isNone,
           payload := s.buffer d 0 (s.desc d).fill }
  | _, _, _ => none

/-- The DATA frame of a channel is requested: outstanding is set and attempts rises (R92). -/
def State.requestData (s : State) (n : ChanId) : State :=
  match s.dataFrame n with
  | none => s
  | some f =>
    { s.setTx n { s.txc n with outstanding := true, attempts := (s.txc n).attempts + 1 } with
      request := some (.data f) }

/-- A PASS is requested (R51, R90). -/
def State.requestPass (s : State) : State := { s with request := some (.pass s.ownAddr) }

/-- The frame of an own turn is requested: the DATA frame of the chosen channel, or a PASS (R87, R90). -/
def State.requestChosen (r : State × Option ChanId) : State :=
  match r.2 with
  | some n => r.1.requestData n
  | none => r.1.requestPass

/-- Own turn start at the transmit engine: absence counts, scan, request (R87). -/
def State.ownTurnStarts (s : State) : State :=
  let s := allChans.foldl State.advanceAbsence s
  State.requestChosen (s.scan s.cfg.length s.cursor)

end Sys2Proof.Machine
end

