-- ==== Sys2Proof/Machine/Turn.lean ====
section
/-! DEFINITION. The turn controller and the line interface: turn ends, slips, adoption, claim, collisions, exits
from ONLINE and entries to OFFLINE, the roster (chapters 3 and 4). -/

namespace Sys2Proof.Machine

/-! ## The pins of the line (R42, R51, R56) -/

/-- The line interface watches RXD: LISTENING, ONLINE and LEAVING (section 3.5). -/
def State.lineInUse (s : State) : Bool :=
  s.station == .listening || s.station == .online || s.station == .leaving

/-- DRV is asserted exactly while a frame is being sent (R51). -/
def State.drv (s : State) : Bool :=
  match s.line with
  | .sending _ => true
  | _ => false

/-- The bits the frame being sent carries on TXD, from its first start bit; TXD is high otherwise (R42). -/
def State.txdBits (s : State) : List Bool :=
  match s.line with
  | .sending f => frameBits f
  | _ => []

/-! ## The time since RXD was last low (R56) -/

/-- A bit time of the configured rate in half microseconds (R41). -/
def State.bitTime (s : State) : Nat := Config.bitTime s.cfg.rate

/-- The longest time that is told apart: more than 20 bit times at every rate. -/
def sinceLowCap : Nat := 161

/-- RXD was low at this moment (R56). -/
def State.lowNow (s : State) : State := { s with sinceLow := 0 }

/-- RXD was last low when the last byte of a frame that has just ended was: its trailing high bit times ago (R42). -/
def State.lowBefore (s : State) (bytes : List Byte) : State :=
  { s with sinceLow := trailingHigh (bytes.getLastD 0) * s.bitTime }

/-- RXD has been high for just more than 20 bit times (R48). -/
def State.idleExceeded (s : State) : State := { s with sinceLow := Config.idleLimit * s.bitTime + 1 }

/-- RXD is low, or was last low within the last 20 bit times of the configured rate (R56). -/
def State.recentlyLow (s : State) : Bool := s.rxdLow || decide (s.sinceLow ≤ Config.idleLimit * s.bitTime)

/-- The clock runs for half a microsecond with nothing happening: only the time since RXD was last low grows, from
the end of STARTING on, while no frame is on the line and RXD is not low. DESIGN CHOICE: notes/assumptions/2.md. -/
def State.idleTick (s : State) : State :=
  if s.station = .starting ∨ s.line ≠ .quiet then s
  else { s with sinceLow := if s.rxdLow then 0 else min (s.sinceLow + 1) sinceLowCap }

/-! ## Leaving ONLINE (R57, R74, R75, R78) -/

/-- The line interface stops at once and is held in QUIET; a requested frame is not started (R57). -/
def State.stopLine (s : State) : State :=
  { s with line := .quiet, request := none, sinceLow := if s.line = .quiet then s.sinceLow else 0 }

/-- The station becomes OFFLINE: the line stops, the timers stop, the quiet count becomes 0; then the exit from
ONLINE (not from LISTENING) and the entry to OFFLINE reach the engines (R57, R68, R78). Where both engines push to one
queue R78 leaves the order open. DESIGN CHOICE: the transmit engine first, notes/assumptions/10.md. -/
def State.goOffline (s : State) : State :=
  let s1 := { s.stopLine with
    station := .offline
    turn := { s.turn with timer := .stopped, quiet := 0, ownTurn := false } }
  let s2 := if s.station = .online ∨ s.station = .leaving then s1.interrupt else s1
  s2.rxOffline

/-- The station leaves ONLINE for LISTENING(resync) after a collision: the line is in SKIPPING until the remainder
of the collided frame ends, and the exit from ONLINE reaches the transmit engine (R54, R74). -/
def State.goResync (s : State) : State :=
  State.interrupt { s with
    station := .listening
    line := .skipping { began := .other, counted := false, remainder := true }
    turn := { s.turn with flavour := .resync, timer := .stopped, quiet := 0, ownTurn := false } }

/-- FAULT: the station goes OFFLINE and the FAULT event is set (R75). -/
def State.goFault (s : State) : State := s.goOffline.raise .fault

/-- A collision on the own frame `f`: it is counted, a DATA frame's sending is taken as unanswered and a TEARING
channel completes, and the station enters fault, ends LEAVING or enters resync (R53, R74, R75, R77, R109). -/
def State.collide (s : State) (f : Frame) : State :=
  let s := ({ s with turn := { s.turn with collided := s.turn.collided + 1 } }.count .collisions).lowNow
  let s := match f with
    | .data _ => s.ownTurnEnds none
    | _ => s
  if Config.faultLimit ≤ s.turn.collided then s.goFault
  else if s.station = .leaving then s.goOffline
  else s.goResync

/-! ## The roster (R80, R81) -/

/-- A valid frame from a station: its entry becomes PRESENT with misses 0; a change out of ABSENT is signalled. The
own entry is not kept (R79, R80, R104). -/
def State.heardFrom (s : State) (a : Station) : State :=
  if a = s.ownAddr then s
  else
    let s1 := s.setRoster a { state := .present, misses := 0 }
    if s.isAbsent a then s1.txReturned a else s1

/-- A station becomes ABSENT with misses 2, and both engines are signalled (R81, R102, R130), the transmit engine
first. DESIGN CHOICE: notes/assumptions/10.md. -/
def State.becomeAbsent (s : State) (a : Station) : State :=
  ((s.setRoster a { state := .absent, misses := Config.missLimit }).txAbsent a).rxAbsent a

/-- A silent turn of another station adds one miss; the second makes the station ABSENT (R81). -/
def State.missTurn (s : State) (a : Station) : State :=
  if a = s.ownAddr ∨ s.isAbsent a then s
  else if Config.missLimit ≤ (s.rosterOf a).misses + 1 then s.becomeAbsent a
  else s.setRoster a { s.rosterOf a with misses := (s.rosterOf a).misses + 1 }

/-! ## Turn ends (R60, R65, R67, R68) -/

/-- The way a turn ended; a turn that ended by answer carries the valid frame that ended it, if it was one (R65). -/
inductive TurnWay where
  | byPass
  | byAnswer (f : Option Frame)
  | byWindow
  | silent
  deriving DecidableEq, Repr

/-- The frame a turn end gives the transmit engine (R65). -/
def TurnWay.answer : TurnWay → Option Frame
  | .byAnswer f => f
  | _ => none

/-- The turn controller's own part of a turn end: the counter advances, the turn gap starts, and an own turn that
started quiet lowers the quiet count (R60, R61, R65, R68). -/
def TurnControl.advance (t : TurnControl) : TurnControl :=
  { t with counter := t.counter + 1, timer := .turnGap, ownTurn := false,
           quiet := if t.ownTurn then t.quiet - 1 else t.quiet }

/-- The turn end at the turn controller and the receive engine: the counter advances and the turns of the owner are
counted for patience (R60, R65, R129). -/
def State.turnPasses (s : State) : State :=
  { s with turn := s.turn.advance }.countPatience s.turn.counter

/-- The end of a turn of `owner` at the transmit engine, which takes the end of the own turn alone, with the frame that
ended it (R65, R93, R109). -/
def State.tellTransmit (s : State) (owner : Station) (answer : Option Frame) : State :=
  if owner = s.ownAddr then s.ownTurnEnds answer else s

/-- A turn end up to the start of the next own turn: the turn end at both engines, then a roster change caused by the
miss (R65). Of the two engines the receive engine is told first. DESIGN CHOICE: notes/assumptions/10.md. -/
def State.endTurn (s : State) (way : TurnWay) : State :=
  let owner := s.turn.counter
  let s := s.turnPasses.tellTransmit owner way.answer
  if way = .silent then s.missTurn owner else s

/-- A LEAVING station whose own turn has ended becomes OFFLINE (R77, R109). -/
def State.leaveAfter (s : State) (owner : Station) : State :=
  if owner = s.ownAddr ∧ s.station = .leaving then s.goOffline else s

/-- The own turn has been reached by a turn end while ONLINE (R67). -/
def State.atOwnTurn (s : State) : Bool := s.station == .online && s.turn.counter == s.ownAddr

/-- The state marked as in its own turn (R67). -/
def State.markOwnTurn (s : State) : State :=
  if s.atOwnTurn then { s with turn := { s.turn with ownTurn := true } } else s

/-- The start of an own turn that a turn end has reached: with quiet count 0 the transmit engine is signalled (R67,
R87). -/
def State.startOwnTurn (s : State) : State :=
  if s.atOwnTurn ∧ s.turn.quiet = 0 then s.markOwnTurn.ownTurnStarts else s.markOwnTurn

/-- A whole turn end: the turn end, the start of an own turn it reaches, and the end of LEAVING (R65, R67, R77). -/
def State.turnEnd (s : State) (way : TurnWay) : State :=
  ((s.endTurn way).startOwnTurn).leaveAfter s.turn.counter

/-! ## Frames heard (R62 to R66, R73) -/

/-- A timer runs in place of the one before. -/
def State.withTimer (s : State) (t : Timer) : State := { s with turn := { s.turn with timer := t } }

/-- A slip to a station: the counter is set, the slip is counted and its event set; a quiet own turn that it
supersedes lowers the quiet count (R66, R68). -/
def State.slipTo (s : State) (a : Station) : State :=
  ({ s with turn := { s.turn with counter := a, ownTurn := false,
                                  quiet := if s.turn.ownTurn then s.turn.quiet - 1 else s.turn.quiet } }.count
    .slips).raise .slip

/-- An opening frame that holds a turn: a PASS ends the turn, a DATA opens a response window (R62). -/
def State.openTurn (s : State) (f : Frame) : State :=
  match f with
  | .pass _ => s.turnEnd .byPass
  | _ => s.withTimer .responseWindow

/-- A valid PASS or DATA whose source is not the counter, or that started in a window, slips; then it opens the
turn of its source (R64 steps 3 and 4, R66). -/
def State.holdTurn (s : State) (inWindow : Bool) (f : Frame) : State :=
  (if f.source ≠ s.turn.counter ∨ inWindow then s.slipTo f.source else s).openTurn f

/-- The frame, when it is valid and holds a turn (R43 to R45). -/
def turnHolder : Option Frame → Option Frame
  | some f => if f.holdsTurn then some f else none
  | none => none

/-- The roster step of a frame end: a valid frame credits its source (R64 step 2, R80). -/
def State.hearSource (s : State) (v : Option Frame) : State :=
  match v with
  | some f => s.heardFrom f.source
  | none => s

/-- A frame end whose frame started in a response window. The window's turn ends by answer (R63, R64 step 1).
A valid PASS or DATA then slips and opens the turn of its source; an own turn that the advance reached is superseded and
not signalled (R64 steps 1, 3 and 4). After any other frame the own turn the advance reached starts, and the transmit
engine takes a REPLY as the answer of its own turn once the roster has it (R50, R93). A LEAVING station becomes OFFLINE
when the whole step has been applied (R64, R77): notes/assumptions/3.md. -/
def State.frameInWindow (s : State) (v : Option Frame) : State :=
  let owner := s.turn.counter
  let t := match turnHolder v with
    | some f => (((s.endTurn (.byAnswer v)).markOwnTurn).hearSource v).holdTurn true f
    | none => ((s.turnPasses.startOwnTurn).hearSource v).tellTransmit owner v
  t.leaveAfter owner

/-- A frame end whose frame started elsewhere: roster, then a slip if it is one, then opening (R64 steps 2 to 4). -/
def State.frameInGap (s : State) (began : Began) (v : Option Frame) : State :=
  let s := s.hearSource v
  match turnHolder v with
  | some f => s.holdTurn false f
  | none => if began = .gap then s.withTimer .responseWindow else s

/-- The turn controller's step for a frame end in ONLINE or LEAVING (R64). -/
def State.frameInTurn (s : State) (began : Began) (v : Option Frame) : State :=
  if began = .window then s.frameInWindow v else s.frameInGap began v

/-- Adoption: the first valid PASS or DATA that ends while LISTENING gives the station its count (R73). -/
def State.adopt (s : State) (f : Frame) : State :=
  let s := { s with
    station := .online
    turn := { s.turn with
      counter := f.source, ownTurn := false, timer := .stopped
      quiet := if s.turn.flavour = Flavour.joining then Config.quietTurns else 0 } }
  (s.heardFrom f.source).openTurn f

/-- A frame end at the turn controller, with its verdict: a frame, or none for an invalid frame (R64, R71 to R73). -/
def State.frameToTurns (s : State) (began : Began) (v : Option Frame) : State :=
  match s.station with
  | .listening =>
    match turnHolder v with
    | some f => s.adopt f
    | none => s.withTimer .listenWait
  | .online => s.frameInTurn began v
  | .leaving => s.frameInTurn began v
  | _ => s

/-- A valid DATA frame goes to the receive engine after the turn controller's step (R50). A valid REPLY is taken at the
end of the own turn that it answers, and has no effect elsewhere (R50, R93). -/
def State.frameToEngines (s : State) (v : Option Frame) : State :=
  match v with
  | some (.data f) => s.heardData f
  | _ => s

/-- The end of a heard frame with its verdict: the line is QUIET, an invalid frame that did not begin in SKIPPING is
counted, then the turn controller and the engines take the frame (R50). -/
def State.frameEnds (s : State) (h : Heard) (v : Option Frame) : State :=
  let s := { s with line := .quiet }
  let s := if v = none ∧ h.counted then s.count .invalidHeard else s
  (s.frameToTurns h.began v).frameToEngines v

/-- The verdict on the bytes of a frame: a REPLY is valid only when its start fell in a response window (R49). -/
def verdict (began : Began) (bytes : List Byte) : Option Frame :=
  match decodeFrame bytes with
  | some (.reply r) => if began = .window then some (.reply r) else none
  | v => v

/-! ## Own frames and expiries (R51, R52, R69, R71, R72) -/

/-- The start of a frame stops whatever timer runs (R61, R63, R69, R71, R72). -/
def State.stopTimer (s : State) : State := s.withTimer .stopped

/-- Where a frame start falls, from the timer it stops (R62, R63). -/
def beganIn : Timer → Began
  | .turnGap => .gap
  | .responseWindow => .window
  | _ => .other

/-- The counter that an own frame end of a kind raises (R51, R163). -/
def sentCounter : Frame → Counter
  | .pass _ => .passSent
  | .data _ => .dataSent
  | .reply _ => .replySent

/-- How an own frame end is treated: a PASS ends the own turn, a DATA opens its response window, a REPLY ends the
DATA sender's turn by answer (R69). -/
def State.ownFrameTreated (s : State) (f : Frame) : State :=
  match f with
  | .pass _ => s.turnEnd .byPass
  | .data _ => s.withTimer .responseWindow
  | .reply r => s.turnEnd (.byAnswer (some (.reply r)))

/-- The end of an own frame without collision: it is counted as sent and the consecutive-collision count returns to
0 (R51, R69, R75). -/
def State.ownFrameEnds (s : State) (f : Frame) : State :=
  let s := { s with line := .quiet, turn := { s.turn with collided := 0 } }.count (sentCounter f)
  s.ownFrameTreated f

/-- The claim: ONLINE with quiet count 0, the counter at the own address, a PASS requested (R72). -/
def State.claim (s : State) : State :=
  State.requestPass { s with
    station := .online
    turn := { s.turn with counter := s.ownAddr, quiet := 0, timer := .stopped, ownTurn := true } }

/-- No frame is on the line and none is requested: what every expiry needs, since a requested frame starts within 4
or 8 bit times and so before any expiry (R51, R55). DEDUCED: notes/assumptions/4.md. -/
def State.silentLine (s : State) : Bool := s.line == .quiet && s.request == none

/-- A timer runs on a silent line of a station that uses it, so that its expiry can arise. -/
def State.canExpire (s : State) (t : Timer) : Bool := s.lineInUse && s.silentLine && s.turn.timer == t

end Sys2Proof.Machine
end

