-- ==== Sys2Proof/Machine/HostChannels.lean ====
section
/-! DEFINITION. Station and channel commands: JOIN, LEAVE, ENABLE_TX, CLEAR_TX, TEARDOWN_TX, ENABLE_RX, HALT_RX,
CLEAR_RX, TEARDOWN_RX (R70, R76, R106 to R108, R132 to R134, R137, R142, R150). -/

namespace Sys2Proof.Machine

/-- JOIN in OFFLINE: LISTENING(joining) with roster, tally table, collision count and quiet count cleared. An idle
line starts QUIET with the listen wait running; a line that is low or was low in the last 20 bit times starts in
SKIPPING (R56, R70, R71). -/
def State.joinLine (s : State) : State :=
  { s.clearTallies with
    station := .listening
    rxdLow := false
    roster := filled 16 RosterEntry.reset
    line := if s.recentlyLow then .skipping { began := .other, counted := false, remainder := false } else .quiet
    turn := { s.turn with
      flavour := .joining, quiet := 0, collided := 0
      timer := if s.recentlyLow then .stopped else .listenWait } }

/-- JOIN (R70). -/
def execJoin (s : State) : Host.Outcome State Fault Refusal :=
  .next (s.atPort
    (if s.station = .offline then s.joinLine.answering .done [] else s.refuse .wrongState))

/-- LEAVE (R76). -/
def execLeave (s : State) : Host.Outcome State Fault Refusal :=
  .next (s.atPort
    (match s.station with
      | .listening => s.goOffline.answering .done []
      | .online =>
        match s.outstandingChan with
        | some _ => { s with station := .leaving }.answering .done []
        | none => s.goOffline.answering .done []
      | _ => s.refuse .wrongState))

/-- The checks of a transmit channel command before the channel state (R106). -/
def State.withTx (s : State) (n : Byte) (act : ChanId → State) : State :=
  s.atPort
    (match inRange 8 n with
      | none => s.refuse .badArgument
      | some n =>
        if s.station = .unconfigured then s.refuse .wrongState
        else if (s.txc n).defn.isNone then s.refuse .badArgument
        else act n)

/-- The checks of a receive channel command before the channel state (R132). -/
def State.withRx (s : State) (n : Byte) (act : ChanId → State) : State :=
  s.atPort
    (match inRange 8 n with
      | none => s.refuse .badArgument
      | some n =>
        if s.station = .unconfigured then s.refuse .wrongState
        else if (s.rxc n).defn.isNone then s.refuse .badArgument
        else act n)

/-- A transmit channel enabled or cleared: IDLE, nothing in hand, counts 0, flags clear, the tally kept (R107,
R108). -/
def TxChan.opened (c : TxChan) : TxChan :=
  { c with state := .idle, msg := none, cur := none, attempts := 0, laters := 0, absence := 0, doubt := false,
           outstanding := false }

/-- ENABLE_TX (R107). -/
def execEnableTx (n : Byte) (s : State) : Host.Outcome State Fault Refusal :=
  .next (s.withTx n fun n =>
    if (s.txc n).state = .disabled then (s.setTx n (s.txc n).opened).answering .done []
    else s.refuse .wrongState)

/-- CLEAR_TX (R108). -/
def execClearTx (n : Byte) (s : State) : Host.Outcome State Fault Refusal :=
  .next (s.withTx n fun n =>
    if (s.txc n).state = .halted then (s.setTx n (s.txc n).opened).answering .done []
    else s.refuse .wrongState)

/-- TEARDOWN_TX (R142). -/
def execTeardownTx (n : Byte) (s : State) : Host.Outcome State Fault Refusal :=
  .next (s.withTx n fun n =>
    match (s.txc n).state with
    | .disabled => s.refuse .wrongState
    | .tearing => s.refuse .wrongState
    | .idle => (s.completeTeardown n).answering .done []
    | .halted => (s.completeTeardown n).answering .done []
    | .active =>
      if (s.txc n).outstanding then (s.setTx n { s.txc n with state := .tearing }).answering .done []
      else (s.completeTeardown n).answering .done [])

/-- ENABLE_RX (R133). -/
def execEnableRx (n : Byte) (s : State) : Host.Outcome State Fault Refusal :=
  .next (s.withRx n fun n =>
    if (s.rxc n).state = .disabled then
      ((s.clearTallyRow n).setRx n ((s.rxc n).atRest .idle)).answering .done []
    else s.refuse .wrongState)

/-- HALT_RX (R137). -/
def execHaltRx (n : Byte) (s : State) : Host.Outcome State Fault Refusal :=
  .next (s.withRx n fun n =>
    match (s.rxc n).state with
    | .disabled => s.refuse .wrongState
    | .halted => s.refuse .wrongState
    | .idle => (s.setRx n ((s.rxc n).atRest .halted)).answering .done []
    | .assembling => (s.abandonTo n .halted).answering .done []
    | .discarding => (s.abandonTo n .halted).answering .done [])

/-- CLEAR_RX (R134). -/
def execClearRx (n : Byte) (s : State) : Host.Outcome State Fault Refusal :=
  .next (s.withRx n fun n =>
    if (s.rxc n).state = .halted then (s.setRx n ((s.rxc n).atRest .idle)).answering .done []
    else s.refuse .wrongState)

/-- TEARDOWN_RX (R150). -/
def execTeardownRx (n : Byte) (s : State) : Host.Outcome State Fault Refusal :=
  .next (s.withRx n fun n =>
    if (s.rxc n).state = .disabled then s.refuse .wrongState
    else (s.completeRxTeardown n).answering .done [])

end Sys2Proof.Machine
end

