-- ==== Sys2Proof/Machine/HostSetup.lean ====
section
/-! DEFINITION. Resets and configuration: HARD_RESET, STARTING_END, SET_LINE, DEFINE_TX, DEFINE_RX,
DEFINE_SCHEDULE, FIX, RESTART (R179 to R189). -/

namespace Sys2Proof.Machine

/-- A configuration command: STARTING, then WRONG_STATE outside UNCONFIGURED, then the command (R181). -/
def State.whenUnconfigured (s : State) (act : State) : State :=
  s.atPort (if s.station = .unconfigured then act else s.refuse .wrongState)

/-- HARD_RESET: every block takes its reset values, the station is STARTING and the straps are sampled as the own
address. Packet memory keeps its bytes until STARTING clears it, and the level on RXD is the line's. With CS# low at
its end the host port waits for CS# to rise (R22, R40, R56, R82, R180, R188). -/
def execHardReset (a0 a1 a2 a3 : Bool) (s : State) (csLow : Bool := false) : Host.Outcome State Fault Refusal :=
  .next { State.reset with ownAddr := strapAddress a0 a1 a2 a3, mem := s.mem, rxdLow := s.rxdLow,
                           portSkips := csLow, pending := s.pending }

/-- STARTING_END: packet memory has been cleared to 00h and the station is UNCONFIGURED; the time since RXD was last
low starts here. Outside STARTING the event does not arise (R22, R56, R179). -/
def execStartingEnd (s : State) : Host.Outcome State Fault Refusal :=
  .next (if s.station = .starting then { s with station := .unconfigured, mem := [], sinceLow := 0 } else s)

/-- SET_LINE (R182). -/
def execSetLine (rate marker m0 m1 m2 m3 : Byte) (s : State) : Host.Outcome State Fault Refusal :=
  .next (s.whenUnconfigured
    (match inRange 4 rate, inRange 32 marker with
      | some r, some q =>
        { s with cfg := { s.cfg with rate := r, markerPool := q, mask := maskOf m0 m1 m2 m3 } }.answering .done []
      | _, _ => s.refuse .badArgument))

/-- DEFINE_TX (R183). -/
def execDefineTx (n station channel submit notice : Byte) (s : State) : Host.Outcome State Fault Refusal :=
  .next (s.whenUnconfigured
    (match inRange 8 n, inRange 16 station, inRange 8 channel, inRange 32 submit, inRange 32 notice with
      | some n, some a, some c, some q, some r =>
        if a = s.ownAddr then s.refuse .badArgument
        else
          (s.setTx n { s.txc n with defn := some { station := a, channel := c, submit := q, notice := r } }).answering
            .done []
      | _, _, _, _, _ => s.refuse .badArgument))

/-- A policy byte (R193). -/
def policyOf (b : Byte) : Option Policy :=
  if b = 0x00#8 then some .refuse else if b = 0x01#8 then some .drop else none

/-- DEFINE_RX (R184). -/
def execDefineRx (n headPool bodyPool delivery policy patience : Byte) (s : State) :
    Host.Outcome State Fault Refusal :=
  .next (s.whenUnconfigured
    (match inRange 8 n, inRange 32 headPool, inRange 32 bodyPool, inRange 32 delivery, policyOf policy with
      | some n, some h, some b, some d, some p =>
        if patience = 0 then s.refuse .badArgument
        else
          (s.setRx n { s.rxc n with
            defn := some { headPool := h, bodyPool := b, delivery := d, policy := p,
                           patience := patience.toNat } }).answering .done []
      | _, _, _, _, _ => s.refuse .badArgument))

/-- A schedule table with entries from `e` on taken from a list, and the rest as they are. -/
def putEntries (t : Table 32 (Option ChanId)) : Nat → List (Option ChanId) → Table 32 (Option ChanId)
  | _, [] => t
  | e, x :: xs => putEntries (if h : e < 32 then put t ⟨e, h⟩ x else t) (e + 1) xs

/-- DEFINE_SCHEDULE: an active length out of range is taken at the length byte; fewer entry bytes than announced
are no taken command and have no effect (R173, R175, R185). -/
def execDefineSchedule (length : Byte) (entries : List Byte) (s : State) : Host.Outcome State Fault Refusal :=
  .next
    (if entries.length < announced 32 length then s.nothingTaken
    else s.whenUnconfigured
      (if announced 32 length = 0 then s.refuse .badArgument
      else match scheduleOf (entries.take (announced 32 length)) with
        | none => s.refuse .badArgument
        | some es =>
          { s with cfg := { s.cfg with schedule := putEntries (filled 32 none) 0 es,
                                       length := length.toNat } }.answering .done []))

/-! ## FIX (R186, R187) -/

/-- The schedule entries in use, entries 0 to L - 1 (R86). -/
def State.activeEntries (s : State) : List (Option ChanId) := (List.range s.cfg.length).map s.scheduled

/-- A transmit channel is defined (R83). -/
def State.txDefined (s : State) (n : ChanId) : Bool := (s.txc n).defn.isSome

/-- An entry in use names a transmit channel (R186). -/
def State.named (s : State) (n : ChanId) : Bool := s.activeEntries.contains (some n)

/-- The submit queues of the defined transmit channels, TX0 first. -/
def State.submitQueues (s : State) : List QueueId :=
  allChans.filterMap fun n => (s.txc n).defn.map (·.submit)

/-- The queues a submit queue may not be: the pools and delivery queues of defined receive channels, and the marker
pool (R186). -/
def State.closedQueues (s : State) : List QueueId :=
  s.cfg.markerPool ::
    allChans.flatMap fun n =>
      match (s.rxc n).defn with
      | some df => [df.headPool, df.bodyPool, df.delivery]
      | none => []

/-- The first check of FIX that fails, 0 when none does (R186). -/
def State.fixCheck (s : State) : Nat :=
  if allChans.all fun n => !s.named n then 1
  else if allChans.any fun n => s.named n && !s.txDefined n then 2
  else if allChans.any fun n => s.txDefined n && !s.named n then 3
  else if ¬ s.submitQueues.Nodup then 4
  else if s.submitQueues.any fun q => s.closedQueues.contains q then 5
  else 0

/-- A transmit channel's running fields at FIX (R83). -/
def TxChan.fixed (c : TxChan) : TxChan := { TxChan.reset with defn := c.defn }

/-- A receive channel's running fields at FIX: its counters are kept (R110). -/
def RxChan.fixed (c : RxChan) : RxChan :=
  { RxChan.reset with defn := c.defn, drops := c.drops, abandons := c.abandons }

/-- FIX answered DONE: the running fields are set, the cursor is 0 and the station is OFFLINE, where the
configuration commands answer WRONG_STATE (R187). -/
def State.freeze (s : State) : State :=
  let s := allChans.foldl (fun s n => s.setTx n (s.txc n).fixed) s
  let s := allChans.foldl (fun s n => s.setRx n (s.rxc n).fixed) s
  { s with cursor := 0, station := .offline }

/-- FIX (R186, R187). -/
def execFix (s : State) : Host.Outcome State Fault Refusal :=
  .next (s.whenUnconfigured
    (if s.fixCheck = 0 then s.freeze.answering .done [byteOf 0]
    else s.answering .badConfig [byteOf s.fixCheck]))

/-- RESTART: every block but packet memory and the own address takes its reset values, without any signal; the time
since RXD was last low starts here, and its level is the line's (R23, R40, R56,
R57, R82, R136, R189). -/
def execRestart (s : State) : Host.Outcome State Fault Refusal :=
  .next (s.atPort
    ({ State.reset with station := .unconfigured, ownAddr := s.ownAddr, mem := s.mem,
                        rxdLow := s.rxdLow, pending := s.pending }.answering .done []))

end Sys2Proof.Machine
end

