-- ==== Sys2Proof/Machine/HostStatus.lean ====
section
/-! DEFINITION. Status commands and transactions without effect: READ_STATION, READ_ROSTER, READ_TX, READ_RX,
READ_COUNTERS, READ_EVENTS, UNKNOWN_COMMAND, TRANSACTION_ABORT (chapter 8, R175, R176). -/

namespace Sys2Proof.Machine

/-- READ_STATION (R168). -/
def execReadStation (s : State) : Host.Outcome State Fault Refusal :=
  .next (s.atPort (s.answering .done (stationRecord s)))

/-- READ_ROSTER (R169). -/
def execReadRoster (s : State) : Host.Outcome State Fault Refusal :=
  .next (s.atPort (s.answering .done (rosterRecord s)))

/-- READ_TX (R167, R170). -/
def execReadTx (n : Byte) (s : State) : Host.Outcome State Fault Refusal :=
  .next (s.atPort
    (match inRange 8 n with
      | none => s.refuse .badArgument
      | some n => s.answering .done (txRecord (s.txc n))))

/-- READ_RX (R167, R171). -/
def execReadRx (n : Byte) (s : State) : Host.Outcome State Fault Refusal :=
  .next (s.atPort
    (match inRange 8 n with
      | none => s.refuse .badArgument
      | some n => s.answering .done (rxRecord (s.rxc n) (s.tallyRow n))))

/-- A receive channel with its drop and abandon counters 0 (R165). -/
def RxChan.countersCleared (c : RxChan) : RxChan := { c with drops := 0, abandons := 0 }

/-- Every counter 0 (R165). -/
def State.clearCounters (s : State) : State :=
  allChans.foldl (fun s n => s.setRx n (s.rxc n).countersCleared) { s with counters := Counters.zero }

/-- READ_COUNTERS (R165). -/
def execReadCounters (option : Byte) (s : State) : Host.Outcome State Fault Refusal :=
  .next (s.atPort
    (if option = 0x00#8 then s.answering .done (counterRecord s)
    else if option = 0x01#8 then s.clearCounters.answering .done (counterRecord s)
    else s.refuse .badArgument))

/-- READ_EVENTS: the snapshot, then every flag it shows set is cleared (R161). -/
def execReadEvents (s : State) : Host.Outcome State Fault Refusal :=
  .next (s.atPort ({ s with events := Events.clear }.answering .done [eventByte s.events]))

/-- UNKNOWN_COMMAND: BAD_COMMAND, or STARTING, with no effect. A code that names a command is no unknown command and
the event does not arise (R176, R179). -/
def execUnknownCommand (code : Byte) (s : State) : Host.Outcome State Fault Refusal :=
  .next (if isCommandCode code then s else s.atPort (s.refuse .badCommand))

/-- TRANSACTION_ABORT: the bytes received are discarded and no block sees them; no answer stands (R175; notes/assumptions/15.md). -/
def execTransactionAbort (_bytes : List Byte) (s : State) : Host.Outcome State Fault Refusal :=
  .next s.nothingTaken

end Sys2Proof.Machine
end

