-- ==== Sys2Proof/Machine/HostStorage.lean ====
section
/-! DEFINITION. Queue, descriptor and buffer commands: PUSH, POP, QUEUE_STATUS, READ_DESC, WRITE_DESC, READ_BUFFER,
WRITE_BUFFER (chapters 1 and 2). -/

namespace Sys2Proof.Machine

/-- A PUSH whose walk has found the members of the chain: the head QUEUED at the tail of the queue, the others LINKED
(R28). -/
def State.pushMembers (s : State) (q : QueueId) (d : DescId) (members : List DescId) : State :=
  let s := (s.setOwners members .linked).setOwner d (.queued q)
  s.setQueue q (s.queue q ++ [d])

/-- PUSH (R27, R28). -/
def execPush (q d : Byte) (s : State) : Host.Outcome State Fault Refusal :=
  .next (s.atPort
    (match inRange 32 q with
      | none => s.refuse .badArgument
      | some q =>
        match s.walk (descOf d) with
        | .held members => (s.pushMembers q (descOf d) members).answering .done []
        | .badChain => s.refuse .badChain
        | .notHeld => s.refuse .notHeld))

/-- POP (R29). -/
def execPop (q : Byte) (s : State) : Host.Outcome State Fault Refusal :=
  .next (s.atPort
    (match inRange 32 q with
      | none => s.refuse .badArgument
      | some q =>
        match s.queue q with
        | [] => s.refuse .empty
        | h :: rest =>
          ((s.setQueue q rest).setOwners (s.chain h) .host).answering .done
            [byteOf h.val, byteOf (s.chain h).length]))

/-- QUEUE_STATUS (R30). -/
def execQueueStatus (q : Byte) (s : State) : Host.Outcome State Fault Refusal :=
  .next (s.atPort
    (match inRange 32 q with
      | none => s.refuse .badArgument
      | some q => s.answering .done (wordBytes (s.queue q).length ++ refBytes (s.queue q).head?)))

/-- READ_DESC (R18). -/
def execReadDesc (d : Byte) (s : State) : Host.Outcome State Fault Refusal :=
  .next (s.atPort (s.answering .done (descRecord (s.desc (descOf d)))))

/-- WRITE_DESC (R19). -/
def execWriteDesc (d fill nextIndex nextMarker returnQueue label : Byte) (s : State) :
    Host.Outcome State Fault Refusal :=
  .next (s.atPort
    (match inRange 65 fill, nextOf nextIndex nextMarker, inRange 32 returnQueue with
      | some f, some nx, some rq =>
        if (s.desc (descOf d)).owner ≠ .host then s.refuse .notHeld
        else
          (s.setDesc (descOf d) { s.desc (descOf d) with
            fill := f.val, next := nx, returnQueue := rq, label := label }).answering .done []
      | _, _, _ => s.refuse .badArgument))

/-- Offset and count name bytes of one buffer: offset at most 63, count 1 to 64, their sum at most 64 (R20, R21). -/
def bufferRange (offset count : Byte) : Bool :=
  decide (offset.toNat < Config.bufferSize) && decide (1 ≤ count.toNat)
    && decide (count.toNat ≤ Config.bufferSize) && decide (offset.toNat + count.toNat ≤ Config.bufferSize)

/-- READ_BUFFER (R20). -/
def execReadBuffer (d offset count : Byte) (s : State) : Host.Outcome State Fault Refusal :=
  .next (s.atPort
    (if bufferRange offset count = false then s.refuse .badArgument
    else if (s.desc (descOf d)).owner ≠ .host then s.refuse .notHeld
    else s.answering .done (s.buffer (descOf d) offset.toNat count.toNat)))

/-- WRITE_BUFFER: fewer data bytes than announced are no taken command and have no effect (R21, R173, R175). -/
def execWriteBuffer (d offset count : Byte) (data : List Byte) (s : State) : Host.Outcome State Fault Refusal :=
  .next
    (if data.length < announced 64 count then s.nothingTaken
    else s.atPort
      (if bufferRange offset count = false then s.refuse .badArgument
      else if (s.desc (descOf d)).owner ≠ .host then s.refuse .notHeld
      else (s.writeBuffer (descOf d) offset.toNat (data.take (announced 64 count))).answering .done []))

end Sys2Proof.Machine
end

