-- ==== Sys2Proof/Machine/LimitEvents.lean ====
section
/-! DEFINITION. The rows of the table that arise inside another step: patience expiry, the three transmit limits,
FAULT and ROSTER_ABSENT. Inside a turn end, an own turn start or a collision the engines and the turn controller
bring them about themselves; sent as a command, each is the occurrence that reaches the limit at the channel or
station it names, and it changes nothing where the limit is not the next thing reached. DESIGN CHOICE:
notes/assumptions/6.md. -/

namespace Sys2Proof.Machine

/-- The station takes part in turns. -/
def State.keepsTurns (s : State) : Bool := s.station == .online || s.station == .leaving

/-- The turn is that of RXn's source, and its end brings the idle turns to the patience (R129). -/
def State.patienceDue (s : State) (n : ChanId) : Bool :=
  match (s.rxc n).defn with
  | some df =>
    s.keepsTurns && (s.rxc n).busyFrom s.turn.counter && !(s.rxc n).progress
      && decide (df.patience ≤ (s.rxc n).idle + 1)
  | none => false

/-- PATIENCE_EXPIRY: a partial is abandoned or a discard ends (R128, R129). -/
def execPatienceExpiry (n : ChanId) (s : State) : Host.Outcome State Fault Refusal :=
  .next (if s.patienceDue n then s.abandonTo n .idle else s)

/-- The next own turn start brings TXn's absence count to 4 (R103). -/
def State.absenceDue (s : State) (n : ChanId) : Bool :=
  match (s.txc n).defn with
  | some df =>
    s.station == .online && s.turn.quiet == 0 && s.countsAbsence n df
      && decide (Config.absenceLimit ≤ (s.txc n).absence + 1)
  | none => false

/-- ABSENCE_COUNT_LIMIT: the message in hand, or else the oldest submit queue entry, is returned ABSENT (R103). -/
def execAbsenceCountLimit (n : ChanId) (s : State) : Host.Outcome State Fault Refusal :=
  .next (if s.absenceDue n then s.advanceAbsence n else s)

/-- TXn is outstanding and has been sent 8 times without a reply (R98). -/
def State.attemptsDue (s : State) (n : ChanId) : Bool :=
  (s.txc n).outstanding && (s.txc n).msg.isSome && decide (Config.attemptsLimit ≤ (s.txc n).attempts)

/-- ATTEMPTS_LIMIT: the no-reply outcome that fails the message with NO_ANSWER; a TEARING channel completes its
teardown (R98, R99, R109). -/
def execAttemptsLimit (n : ChanId) (s : State) : Host.Outcome State Fault Refusal :=
  .next (if s.attemptsDue n then (s.applyOutcome n none).finishTearing n else s)

/-- TXn is outstanding and its next LATER is the 64th (R95). -/
def State.latersDue (s : State) (n : ChanId) : Bool :=
  (s.txc n).outstanding && (s.txc n).msg.isSome && decide (Config.latersLimit ≤ (s.txc n).laters + 1)

/-- LATERS_LIMIT: the LATER outcome that fails the message with PEER_BUSY; a TEARING channel completes its teardown
(R95, R99, R109). -/
def execLatersLimit (n : ChanId) (s : State) : Host.Outcome State Fault Refusal :=
  .next (if s.latersDue n then (s.applyOutcome n (some .later)).finishTearing n else s)

/-- FAULT: the collision on the frame being sent that brings the consecutive-collision count to 8 (R74, R75). -/
def execFault (s : State) : Host.Outcome State Fault Refusal :=
  .next
    (match s.line with
      | .sending f => if Config.faultLimit ≤ s.turn.collided + 1 then s.collide f else s
      | _ => s)

/-- The turn is that of a station whose next miss is its second (R81). -/
def State.absentDue (s : State) (a : Station) : Bool :=
  s.keepsTurns && s.turn.counter == a && a != s.ownAddr && !s.isAbsent a
    && decide (Config.missLimit ≤ (s.rosterOf a).misses + 1)

/-- ROSTER_ABSENT: the station's second miss; its entry becomes ABSENT and both engines are signalled (R81, R102,
R130). -/
def execRosterAbsent (station : Station) (s : State) : Host.Outcome State Fault Refusal :=
  .next (if s.absentDue station then s.missTurn station else s)

end Sys2Proof.Machine
end

