-- ==== Sys2Proof/Machine/LineEvents.lean ====
section
/-! DEFINITION. The events of the station line, one meaning each (chapters 3 and 4). An event whose circumstances
the state does not show does not arise and changes nothing. DESIGN CHOICE: notes/assumptions/5.md. -/

namespace Sys2Proof.Machine

/-- FRAME_START: a start bit in QUIET of a line interface in use; it stops the running timer and the line is
RECEIVING (R47, R52, R61, R63, R71, R72). -/
def execFrameStart (s : State) : Host.Outcome State Fault Refusal :=
  .next
    (if s.lineInUse ∧ s.line = .quiet then
      { s.stopTimer.lowNow with
        line := .receiving { began := beganIn s.turn.timer, counted := true, remainder := false } }
    else s)

/-- FRAME_END: the last expected byte of the frame being received has ended; its verdict is handed on (R47, R49, R50,
R64, R73, R114). -/
def execFrameEnd (bytes : List Byte) (s : State) : Host.Outcome State Fault Refusal :=
  .next
    (match s.line with
      | .receiving h =>
        if frameComplete bytes ∧ s.request = none then
          (s.lowBefore bytes).frameEnds h (verdict h.began bytes)
        else s
      | _ => s)

/-- IDLE_FRAME_END: more than 20 bit times of idle end the frame being received or skipped as an invalid frame (R48,
R50, R54). -/
def execIdleFrameEnd (s : State) : Host.Outcome State Fault Refusal :=
  .next
    (if s.request = none then
      match s.line with
      | .receiving h => s.idleExceeded.frameEnds h none
      | .skipping h => s.idleExceeded.frameEnds h none
      | _ => s
    else s)

/-- OWN_FRAME_START: the requested frame begins; a frame being heard is given up and the running timer stops (R51,
R52, R69). -/
def execOwnFrameStart (s : State) : Host.Outcome State Fault Refusal :=
  .next
    (match s.request with
      | some f => { s.stopTimer.lowNow with line := .sending f, request := none }
      | none => s)

/-- OWN_FRAME_END: the frame being sent has ended without collision (R51, R69, R75). -/
def execOwnFrameEnd (s : State) : Host.Outcome State Fault Refusal :=
  .next
    (match s.line with
      | .sending f => (s.lowBefore (encodeFrame f)).ownFrameEnds f
      | _ => s)

/-- COLLISION: a bit read back differs from the bit sent (R53, R54, R74, R75). -/
def execCollision (s : State) : Host.Outcome State Fault Refusal :=
  .next
    (match s.line with
      | .sending f => s.collide f
      | _ => s)

/-- RESPONSE_WINDOW_EXPIRY: the turn ends by window expiry (R63). -/
def execResponseWindowExpiry (s : State) : Host.Outcome State Fault Refusal :=
  .next (if s.canExpire .responseWindow then s.turnEnd .byWindow else s)

/-- TURN_GAP_EXPIRY: the turn ends silent (R61). -/
def execTurnGapExpiry (s : State) : Host.Outcome State Fault Refusal :=
  .next (if s.canExpire .turnGap then s.turnEnd .silent else s)

/-- LISTEN_EXPIRY: the claim wait starts (R71). -/
def execListenExpiry (s : State) : Host.Outcome State Fault Refusal :=
  .next (if s.canExpire .listenWait then s.withTimer .claimWait else s)

/-- CLAIM_EXPIRY: the claim takes place (R72). -/
def execClaimExpiry (s : State) : Host.Outcome State Fault Refusal :=
  .next (if s.canExpire .claimWait then s.claim else s)

/-- ENTRY_TO_SKIPPING: a byte makes the frame being received invalid; it ends later, by idle (R47, R48). -/
def execEntryToSkipping (cause : SkipCause) (s : State) : Host.Outcome State Fault Refusal :=
  .next
    (match s.line with
      | .receiving h =>
        if skipCauseHolds cause ∧ s.request = none then { s.lowNow with line := .skipping h } else s
      | _ => s)

/-- RXD_LOW_WHILE_HELD: while the line interface is held, the time since RXD was last low is renewed, and RXD stays low
or has been low for the last time (R56). The end of STARTING renews that time in any case. -/
def execRxdLowWhileHeld (s : State) (stays : Bool := false) : Host.Outcome State Fault Refusal :=
  .next (if s.lineInUse then s else { s.lowNow with rxdLow := stays })

end Sys2Proof.Machine
end

