-- ==== Sys2Proof/Machine/Dispatch.lean ====
section
/-! DEFINITION. One arm per command: exec. -/

namespace Sys2Proof.Machine

def exec (i : Instr) (s : State) : Host.Outcome State Fault Refusal :=
  match i with
  | .hardReset a0 a1 a2 a3 csLow => Sys2Proof.Machine.execHardReset a0 a1 a2 a3 s csLow
  | .startingEnd => Sys2Proof.Machine.execStartingEnd s
  | .setLine rate marker mask0 mask1 mask2 mask3 => Sys2Proof.Machine.execSetLine rate marker mask0 mask1 mask2 mask3 s
  | .defineTx n station channel submit notice => Sys2Proof.Machine.execDefineTx n station channel submit notice s
  | .defineRx n headPool bodyPool delivery policy patience => Sys2Proof.Machine.execDefineRx n headPool bodyPool delivery policy patience s
  | .defineSchedule length entries => Sys2Proof.Machine.execDefineSchedule length entries s
  | .fix => Sys2Proof.Machine.execFix s
  | .push q d => Sys2Proof.Machine.execPush q d s
  | .pop q => Sys2Proof.Machine.execPop q s
  | .queueStatus q => Sys2Proof.Machine.execQueueStatus q s
  | .readDesc d => Sys2Proof.Machine.execReadDesc d s
  | .writeDesc d fill nextIndex nextMarker returnQueue label => Sys2Proof.Machine.execWriteDesc d fill nextIndex nextMarker returnQueue label s
  | .readBuffer d offset count => Sys2Proof.Machine.execReadBuffer d offset count s
  | .writeBuffer d offset count data => Sys2Proof.Machine.execWriteBuffer d offset count data s
  | .join => Sys2Proof.Machine.execJoin s
  | .leave => Sys2Proof.Machine.execLeave s
  | .enableTx n => Sys2Proof.Machine.execEnableTx n s
  | .clearTx n => Sys2Proof.Machine.execClearTx n s
  | .teardownTx n => Sys2Proof.Machine.execTeardownTx n s
  | .enableRx n => Sys2Proof.Machine.execEnableRx n s
  | .haltRx n => Sys2Proof.Machine.execHaltRx n s
  | .clearRx n => Sys2Proof.Machine.execClearRx n s
  | .teardownRx n => Sys2Proof.Machine.execTeardownRx n s
  | .readStation => Sys2Proof.Machine.execReadStation s
  | .readRoster => Sys2Proof.Machine.execReadRoster s
  | .readTx n => Sys2Proof.Machine.execReadTx n s
  | .readRx n => Sys2Proof.Machine.execReadRx n s
  | .readCounters option => Sys2Proof.Machine.execReadCounters option s
  | .readEvents => Sys2Proof.Machine.execReadEvents s
  | .restart => Sys2Proof.Machine.execRestart s
  | .unknownCommand code => Sys2Proof.Machine.execUnknownCommand code s
  | .transactionAbort bytes => Sys2Proof.Machine.execTransactionAbort bytes s
  | .frameStart => Sys2Proof.Machine.execFrameStart s
  | .frameEnd bytes => Sys2Proof.Machine.execFrameEnd bytes s
  | .idleFrameEnd => Sys2Proof.Machine.execIdleFrameEnd s
  | .ownFrameStart => Sys2Proof.Machine.execOwnFrameStart s
  | .ownFrameEnd => Sys2Proof.Machine.execOwnFrameEnd s
  | .collision => Sys2Proof.Machine.execCollision s
  | .responseWindowExpiry => Sys2Proof.Machine.execResponseWindowExpiry s
  | .turnGapExpiry => Sys2Proof.Machine.execTurnGapExpiry s
  | .listenExpiry => Sys2Proof.Machine.execListenExpiry s
  | .claimExpiry => Sys2Proof.Machine.execClaimExpiry s
  | .patienceExpiry n => Sys2Proof.Machine.execPatienceExpiry n s
  | .absenceCountLimit n => Sys2Proof.Machine.execAbsenceCountLimit n s
  | .attemptsLimit n => Sys2Proof.Machine.execAttemptsLimit n s
  | .latersLimit n => Sys2Proof.Machine.execLatersLimit n s
  | .fault => Sys2Proof.Machine.execFault s
  | .rosterAbsent station => Sys2Proof.Machine.execRosterAbsent station s
  | .entryToSkipping cause => Sys2Proof.Machine.execEntryToSkipping cause s
  | .rxdLowWhileHeld stays => Sys2Proof.Machine.execRxdLowWhileHeld s stays

end Sys2Proof.Machine
end

