-- ==== Sys2Proof/Safety.lean ====
section
/-! DEFINITION. What the claims about the station speak of: the host commands, chains as rules name them, what one
turn end does to the patience counts, and the invariants every step keeps. -/

namespace Sys2Proof.Safety

open Sys2Proof.Machine

/-! ## Commands -/

/-- The commands a transaction brings and the station takes: those of the table of chapter 9 and unknown codes. -/
def isHostCommand : Instr → Bool
  | .transactionAbort _ => false
  | c => (encodeTransaction c).isSome

/-- The host port takes commands and STARTING answers for none of them: CS# has risen since the last hard reset, and
packet memory has been cleared (R179, R180). -/
def portTakes (s : State) : Bool := !s.portSkips && s.station != .starting

/-- The five configuration commands (R181). -/
def isConfigCommand : Instr → Bool
  | .setLine _ _ _ _ _ _ => true
  | .defineTx _ _ _ _ _ => true
  | .defineRx _ _ _ _ _ _ => true
  | .defineSchedule _ _ => true
  | .fix => true
  | _ => false

/-- The two commands that reset every block. -/
def isReset : Instr → Bool
  | .hardReset _ _ _ _ _ => true
  | .restart => true
  | _ => false

/-- The commands that can write packet memory: WRITE_BUFFER, a frame end that is answered, and the end of STARTING
(R1). -/
def writesMemory : Instr → Bool
  | .writeBuffer _ _ _ _ => true
  | .frameEnd _ => true
  | .startingEnd => true
  | _ => false

/-! ## Chains (R15) -/

/-- The descriptors of the list are linked in order and the last has next NONE. -/
def linked (s : State) : List DescId → Bool
  | [] => false
  | [d] => (s.desc d).next == none
  | d :: e :: ds => (s.desc d).next == some e && linked s (e :: ds)

/-- The descriptors of the list are linked in order and the last has `e` as its next. -/
def leadsTo (s : State) : List DescId → DescId → Bool
  | [], _ => false
  | [d], e => (s.desc d).next == some e
  | d :: d' :: ds, e => (s.desc d).next == some d' && leadsTo s (d' :: ds) e

/-- The list is a chain: linked, without repeats, 1 to 16 descriptors (R15). -/
def isChain (s : State) (ds : List DescId) : Bool :=
  linked s ds && decide ds.Nodup && decide (ds.length ≤ Config.chainLimit)

/-- Every descriptor of the list has this ownership state. -/
def allOwned (s : State) (ds : List DescId) (o : Owner) : Bool := ds.all fun d => (s.desc d).owner == o

/-! ## Turns -/

/-- The station is ONLINE with a silent line, no frame requested and this timer running. -/
def onlineSilent (s : State) (timer : Timer) : Bool :=
  s.station == .online && s.line == .quiet && s.request == none && s.turn.timer == timer

/-- The station is ONLINE and is receiving a frame that began in this place, with no frame requested. -/
def onlineHearing (s : State) (b : Began) : Bool :=
  s.station == .online && s.line == .receiving { began := b, counted := true, remainder := false }
    && s.request == none

/-- No receive channel is ASSEMBLING or DISCARDING from a source. -/
def nothingFrom (s : State) (a : Station) : Bool := allChans.all fun n => !(s.rxc n).busyFrom a

/-- No receive channel is ASSEMBLING or DISCARDING. -/
def noneBusy (s : State) : Bool := allChans.all fun n => !(s.rxc n).busy

/-- A receive channel after a turn end of station `a` that is no patience expiry for it (R129). -/
def afterTurnOf (a : Station) (c : RxChan) : RxChan :=
  if c.busyFrom a then (if c.progress then { c with progress := false } else { c with idle := c.idle + 1 }) else c

/-- No receive channel loses its patience at the next turn end of station `a` (R129). -/
def patienceLasts (s : State) (a : Station) : Bool :=
  allChans.all fun n =>
    !(s.rxc n).busyFrom a ||
      match (s.rxc n).defn with
      | some df => (s.rxc n).progress || decide ((s.rxc n).idle + 1 < df.patience)
      | none => false

/-- The turn end of station `a` takes the patience of a receive channel (R129). -/
def patienceOut (a : Station) (c : RxChan) : Bool :=
  c.busyFrom a && !c.progress && c.defn.any fun df => decide (df.patience ≤ c.idle + 1)

/-- No transmit channel has a segment outstanding. -/
def nothingOutstanding (s : State) : Bool := allChans.all fun n => !(s.txc n).outstanding

/-- Transmit channel `n` alone has a segment outstanding (R84). -/
def onlyOutstanding (s : State) (n : ChanId) : Bool := allChans.all fun m => (s.txc m).outstanding == decide (m = n)

/-- No message in hand is in doubt. -/
def nothingInDoubt (s : State) : Bool := allChans.all fun n => !(s.txc n).doubt

/-- The turn controller after a turn end (R60, R61, R68). -/
def turnAfter (t : TurnControl) : TurnControl :=
  { counter := t.counter + 1, flavour := t.flavour, collided := t.collided, timer := .turnGap, ownTurn := false,
    quiet := if t.ownTurn then t.quiet - 1 else t.quiet }

/-- The roster entry of a station just heard (R80). -/
def heard : RosterEntry := { state := .present, misses := 0 }

/-- The roster entry of station `c` after a valid frame of station `a`; the own entry is not kept (R79, R80). -/
def rosterAfter (s : State) (a c : Station) : RosterEntry :=
  if c = a ∧ a ≠ s.ownAddr then heard else s.rosterOf c

/-- A transmit channel after a valid frame of station `a`: a channel toward `a` whose entry was ABSENT counts its absence
from 0 again (R80, R104). -/
def afterHeard (s : State) (a : Station) (c : TxChan) : TxChan :=
  if a ≠ s.ownAddr ∧ (s.rosterOf a).state = .absent ∧ c.defn.any (fun df => df.station == a) = true then
    { c with absence := 0 }
  else c

/-- The scan passes TXn over: it is undefined, its destination is ABSENT, or it is neither ACTIVE nor IDLE with a message
waiting (R87). -/
def passedOver (s : State) (n : ChanId) : Bool :=
  match (s.txc n).defn with
  | none => true
  | some df =>
    (s.rosterOf df.station).state == .absent
      || ((s.txc n).state != .active && ((s.txc n).state != .idle || (s.queue df.submit).isEmpty))

/-- TXn counts absence at an own turn start: it is IDLE or ACTIVE with work, and its destination is ABSENT (R103). -/
def countsAbsent (s : State) (n : ChanId) : Bool :=
  match (s.txc n).defn with
  | none => false
  | some df =>
    ((s.txc n).state == .idle || (s.txc n).state == .active) && (s.rosterOf df.station).state == .absent
      && ((s.txc n).msg.isSome || !(s.queue df.submit).isEmpty)

/-- TXn once an own turn start has advanced its absence count below 4 (R103). -/
def absenceRaised (s : State) (n : ChanId) : TxChan :=
  if countsAbsent s n then { s.txc n with absence := (s.txc n).absence + 1 } else s.txc n

/-- TXn has nothing to send: it is undefined, or neither ACTIVE nor IDLE with a message waiting (R87). -/
def cannotSend (s : State) (n : ChanId) : Bool :=
  match (s.txc n).defn with
  | none => true
  | some df => (s.txc n).state != .active && ((s.txc n).state != .idle || (s.queue df.submit).isEmpty)

/-! ## Messages and assemblies that end -/

/-- A transmit channel whose message in hand fails with NO_ANSWER while in doubt (R99, R109). -/
def afterFailure (c : TxChan) : TxChan :=
  { c with msg := none, cur := none, attempts := 0, laters := 0, doubt := false, tally := c.tally + 1,
           state := if c.state = .tearing then .tearing else .idle }

/-- A transmit channel at an exit from ONLINE: its absence count is 0; a message in hand fails when in doubt and is
rewound otherwise, and nothing is outstanding (R105). -/
def afterExit (c : TxChan) : TxChan :=
  match c.defn, c.msg with
  | none, _ => c
  | some _, none => { c with absence := 0 }
  | some _, some h =>
    if c.doubt then { afterFailure c with absence := 0, outstanding := false }
    else { c with absence := 0, cur := some h, attempts := 0, laters := 0, doubt := false, outstanding := false }

/-- The message in hand of a transmit channel fails when station `a` becomes ABSENT: it is for `a` and in doubt (R102). -/
def failsFor (a : Station) (c : TxChan) : Bool := c.doubt && c.defn.any fun df => df.station == a

/-- A transmit channel when station `a` becomes ABSENT: a message for it fails when in doubt, and is rewound when a
segment of it has been accepted (R102). -/
def afterAbsence (a : Station) (c : TxChan) : TxChan :=
  if c.defn.any (fun df => df.station == a) = true ∧ c.msg ≠ none then
    if c.doubt then afterFailure c
    else if c.cur ≠ c.msg then { c with cur := c.msg, attempts := 0, laters := 0, doubt := false }
    else c
  else c

/-- A transmit channel whose teardown has completed, with the tally it then holds (R148). -/
def tornDown (c : TxChan) (tally : Tally) : TxChan :=
  { defn := c.defn, state := .disabled, msg := none, cur := none, tally := tally, attempts := 0, laters := 0,
    absence := 0, doubt := false, outstanding := false }

/-- The record of a marker pushed to queue `q` (R153). -/
def markerDesc (x : Desc) (peer : Station) (n : ChanId) (total : Nat) (q : QueueId) : Desc :=
  { x with fill := 0, next := none, status := .marker, peer := peer, channel := n, total := total, owner := .queued q }

/-- A descriptor once the message with the chain `l` has been handed back (R6, R10). -/
def messageDesc (s : State) (peer : Station) (n : ChanId) (st : DescStatus) (l : List DescId) (e : DescId) : Desc :=
  if l.head? = some e then
    { s.desc e with status := st, peer := peer, channel := n, owner := .queued (s.desc e).returnQueue }
  else if e ∈ l then { s.desc e with owner := .linked }
  else s.desc e

/-- A receive channel whose assembly or discard is abandoned (R128, R135). -/
def afterAbandon (c : RxChan) : RxChan :=
  { c with state := .idle, source := none, part := none, idle := 0, progress := false,
           abandons := min (c.abandons + 1) 255 }

/-- A defined receive channel after a turn end of station `a`: its patience runs out, or its idle turns go on (R129). -/
def afterPatience (a : Station) (c : RxChan) : RxChan :=
  if patienceOut a c then afterAbandon c else if c.defn.isSome then afterTurnOf a c else c

/-- A receive channel at an entry to OFFLINE (R131, R136). -/
def afterOffline (c : RxChan) : RxChan :=
  if c.busy then afterAbandon c else { c with idle := 0, progress := false }

/-- What a returned partial adds to the tail of queue `q`: its head to the head pool, then the rest to the body pool
(R13, R34). -/
def partialTo (df : RxDef) (l : List DescId) (q : QueueId) : List DescId :=
  match l with
  | [] => []
  | h :: bs => (if q = df.headPool then [h] else []) ++ (if q = df.bodyPool then bs else [])

/-- A descriptor once the partial `l` has gone back to its pools (R13, R34). -/
def partialDesc (s : State) (df : RxDef) (l : List DescId) (e : DescId) : Desc :=
  if l.head? = some e then { s.desc e with fill := 0, next := none, owner := .queued df.headPool }
  else if e ∈ l then { s.desc e with fill := 0, next := none, owner := .queued df.bodyPool }
  else s.desc e

/-- `l` is the chain of the message in hand of TXn where `ends` holds of the channel, and empty elsewhere. -/
def messageAt (s : State) (ends : TxChan → Bool) (n : ChanId) (l : List DescId) : Bool :=
  match (s.txc n).defn, (s.txc n).msg, ends (s.txc n) with
  | some _, some h, true => l.head? == some h && isChain s l
  | _, _, _ => l.isEmpty

/-- `l` is the chain of the partial of RXn where `ends` holds of the channel, and empty elsewhere. -/
def partialAt (s : State) (ends : RxChan → Bool) (n : ChanId) (l : List DescId) : Bool :=
  match (s.rxc n).defn, (s.rxc n).part, ends (s.rxc n) with
  | some _, some p, true => l.head? == some p.head && isChain s l
  | _, _, _ => l.isEmpty

/-- The messages and partials that a treatment of every channel ends: `msgs n` of TXn, `parts n` of RXn, no descriptor in
two of them. -/
def ending (s : State) (endsTx : TxChan → Bool) (endsRx : RxChan → Bool) (msgs parts : ChanId → List DescId) : Bool :=
  (allChans.all fun n => messageAt s endsTx n (msgs n) && partialAt s endsRx n (parts n))
    && decide (allChans.flatMap msgs ++ allChans.flatMap parts).Nodup

/-- What joins the tail of queue `q` when those messages fail, TX0 first, and those partials then go back, RX0 first
(R10, R13). -/
def endedTo (s : State) (msgs parts : ChanId → List DescId) (q : QueueId) : List DescId :=
  (allChans.flatMap fun n => (msgs n).head?.toList.filter fun h => (s.desc h).returnQueue == q)
    ++ allChans.flatMap fun n =>
      match (s.rxc n).defn with
      | some df => partialTo df (parts n) q
      | none => []

/-- A descriptor once those messages have failed with NO_ANSWER and those partials have gone back (R6, R10, R13). -/
def endedDesc (s : State) (msgs parts : ChanId → List DescId) (e : DescId) : Desc :=
  match allChans.find? fun n => (msgs n).contains e, allChans.find? fun n => (parts n).contains e with
  | some n, _ =>
    match (s.txc n).defn with
    | some df => messageDesc s df.station n .noAnswer (msgs n) e
    | none => s.desc e
  | none, some n =>
    match (s.rxc n).defn with
    | some df => partialDesc s df (parts n) e
    | none => s.desc e
  | none, none => s.desc e

/-- `t` differs from `s` in what a turn end of the station `a` does to the receive channels: those whose patience runs out
give their partials `parts` back, RX0 first, and ABANDON is set; the others count the turn (R128, R129). -/
def TurnCounted (a : Station) (parts : ChanId → List DescId) (s t : State) : Prop :=
  t = { s with rx := t.rx, descs := t.descs, queues := t.queues,
               events := { s.events with abandon := s.events.abandon || allChans.any fun n => patienceOut a (s.rxc n) } }
  ∧ (∀ n, t.rxc n = afterPatience a (s.rxc n)) ∧ (∀ q, t.queue q = s.queue q ++ endedTo s (fun _ => []) parts q)
  ∧ ∀ e, t.desc e = endedDesc s (fun _ => []) parts e

/-- `t` differs from `s` in what a valid frame of the station `a` does to the roster (R80, R104). -/
def SourceHeard (a : Station) (s t : State) : Prop :=
  t = { s with roster := t.roster, tx := t.tx } ∧ (∀ b, t.rosterOf b = rosterAfter s a b)
  ∧ ∀ n, t.txc n = afterHeard s a (s.txc n)

/-- `t` differs from `s` in what the second silent turn of the station `a` does: the partials `gone` go back by patience,
then the messages `msgs` fail, then the partials `parts` go back by the absence (R65, R81, R102, R113, R129, R130). -/
def MissedTwice (a : Station) (gone msgs parts : ChanId → List DescId) (s t : State) : Prop :=
  t = { s with rx := t.rx, roster := t.roster, tx := t.tx, tallies := t.tallies, descs := t.descs, queues := t.queues,
               events := { s.events with abandon := s.events.abandon || !nothingFrom s a } }
  ∧ (∀ b, t.rosterOf b = if b = a then { state := .absent, misses := 2 } else s.rosterOf b)
  ∧ (∀ n b, t.tallyOf n b = if b = a then none else s.tallyOf n b)
  ∧ (∀ n, t.txc n = afterAbsence a (s.txc n))
  ∧ (∀ n, t.rxc n = if (s.rxc n).busyFrom a then afterAbandon (s.rxc n) else s.rxc n)
  ∧ (∀ q, t.queue q = s.queue q ++ endedTo s (fun _ => []) gone q ++ endedTo s msgs parts q)
  ∧ ∀ e, t.desc e =
      if e ∈ allChans.flatMap gone then endedDesc s (fun _ => []) gone e else endedDesc s msgs parts e

/-- The premise of MissedTwice: the partials that patience ends, the messages and the other partials that the absence ends,
no descriptor in two of them. -/
def missedTwiceEnds (s : State) (a : Station) (gone msgs parts : ChanId → List DescId) : Bool :=
  ending s (fun _ => false) (patienceOut a) (fun _ => []) gone
    && ending s (failsFor a) (fun c => c.busyFrom a && !patienceOut a c) msgs parts
    && decide (allChans.flatMap gone ++ allChans.flatMap msgs ++ allChans.flatMap parts).Nodup

/-- `t` differs from `s` in a teardown of TXn that has completed with its outstanding segment unanswered: the message `l`
has ended with `st` and the marker `mk` has been pushed with `total` (R98, R109, R145 to R148, R153). -/
def TornDownUnanswered (n : ChanId) (df : TxDef) (st : DescStatus) (total : Nat) (l : List DescId) (mk : DescId)
    (s t : State) : Prop :=
  t = { s with tx := t.tx, descs := t.descs, queues := t.queues }
  ∧ (∀ m, t.txc m = if m = n then tornDown (s.txc n) ((s.txc n).tally + 1) else s.txc m)
  ∧ (∀ q, t.queue q = (if q = s.cfg.markerPool then (s.queue q).tail else s.queue q)
      ++ (l.head?.toList.filter fun h => (s.desc h).returnQueue == q) ++ (if q = df.notice then [mk] else []))
  ∧ ∀ e, t.desc e =
      if e = mk then markerDesc (s.desc mk) df.station n total df.notice else messageDesc s df.station n st l e

/-- The turn controller at an entry to OFFLINE (R57, R68). -/
def turnOff (t : TurnControl) : TurnControl := { t with timer := .stopped, quiet := 0, ownTurn := false }

/-! ## Invariants of every step -/

/-- Packet memory is in its canonical form (Machine/Ops.lean). -/
def MemoryCanonical (s : State) : Prop := s.mem.wf = true

/-- Every fill is 0 to 64 (R3). -/
def FillsInRange (s : State) : Prop := ∀ d, (s.desc d).fill ≤ Config.bufferSize

/-- The roster: misses 0 to 2, ABSENT exactly with 2, and the own entry as after a reset (R79, R81). -/
def RosterSound (s : State) : Prop :=
  (∀ a, (s.rosterOf a).misses ≤ Config.missLimit
    ∧ ((s.rosterOf a).state = .absent ↔ (s.rosterOf a).misses = Config.missLimit))
  ∧ s.rosterOf s.ownAddr = RosterEntry.reset

/-- The schedule has 1 to 32 entries in use, the cursor names one of them, and it is 0 until FIX (R86, R185). -/
def ScheduleSound (s : State) : Prop :=
  1 ≤ s.cfg.length ∧ s.cfg.length ≤ 32 ∧ s.cursor < s.cfg.length
  ∧ (s.station = .starting ∨ s.station = .unconfigured → s.cursor = 0)

/-- The counters stay in their ranges (R135, R163). -/
def CountersInRange (s : State) : Prop :=
  s.counters.dataSent ≤ Config.counterLimit ∧ s.counters.passSent ≤ Config.counterLimit
  ∧ s.counters.replySent ≤ Config.counterLimit ∧ s.counters.invalidHeard ≤ Config.counterLimit
  ∧ s.counters.slips ≤ Config.counterLimit ∧ s.counters.collisions ≤ Config.counterLimit
  ∧ s.counters.unanswered ≤ Config.counterLimit
  ∧ ∀ n, (s.rxc n).drops ≤ Config.channelCounterLimit ∧ (s.rxc n).abandons ≤ Config.channelCounterLimit

/-- The line interface is held outside LISTENING, ONLINE and LEAVING: QUIET, nothing requested, no timer, quiet count
0; in those states fewer than 8 collisions stand and the held level of RXD is not kept; the counts are in range; an own turn
is a turn of the own address (R56, R57, R68, R75). -/
def LineHeld (s : State) : Prop :=
  (s.lineInUse = false → s.line = .quiet ∧ s.request = none ∧ s.turn.timer = .stopped ∧ s.turn.quiet = 0
    ∧ s.turn.ownTurn = false)
  ∧ (s.lineInUse = true → s.turn.collided < Config.faultLimit ∧ s.rxdLow = false)
  ∧ s.turn.collided ≤ Config.faultLimit ∧ s.turn.quiet ≤ Config.quietTurns
  ∧ (s.turn.ownTurn = true → s.turn.counter = s.ownAddr)

/-- A receive channel's context: a partial exactly while ASSEMBLING, a source exactly while busy, 1 to 15 segments
with at most 64 bytes each, idle turns below the patience; a channel that left DISABLED is defined (R111, R129). -/
def RxContextSound (c : RxChan) : Prop :=
  (c.state = .assembling ↔ c.part.isSome = true) ∧ (c.busy = c.source.isSome)
  ∧ (∀ p, c.part = some p → 1 ≤ p.count ∧ p.count ≤ Config.partialLimit ∧ p.length ≤ Config.bufferSize * p.count)
  ∧ (c.state ≠ .disabled → c.defn.isSome = true)
  ∧ (∀ df, c.defn = some df → 1 ≤ df.patience ∧ df.patience ≤ 255 ∧ (c.busy = true → c.idle < df.patience))
  ∧ (c.busy = false → c.idle = 0)

/-- Every receive channel's context is sound, and before FIX none has left DISABLED (R110, R111). -/
def ReceiveSound (s : State) : Prop :=
  (∀ n, RxContextSound (s.rxc n))
  ∧ (s.station = .starting ∨ s.station = .unconfigured → ∀ n, (s.rxc n).state = .disabled)

/-- A transmit channel's context: a message in hand exactly while ACTIVE or TEARING, a current segment with it, the counts
below the bounds at which they are acted on, attempts at its bound only while outstanding, everything at rest without a
message; a channel that left DISABLED is defined, and TEARING waits for an outstanding segment (R84, R85). -/
def TxContextSound (c : TxChan) : Prop :=
  (c.msg.isSome = true ↔ c.state = .active ∨ c.state = .tearing) ∧ c.cur.isSome = c.msg.isSome
  ∧ c.attempts ≤ Config.attemptsLimit ∧ (c.outstanding = false → c.attempts < Config.attemptsLimit)
  ∧ c.laters < Config.latersLimit ∧ c.absence < Config.absenceLimit
  ∧ (c.msg = none → c.attempts = 0 ∧ c.laters = 0 ∧ c.doubt = false ∧ c.outstanding = false)
  ∧ (c.state = .disabled ∨ c.state = .halted → c.absence = 0)
  ∧ (c.state ≠ .disabled → c.defn.isSome = true) ∧ (c.state = .tearing → c.outstanding = true)

/-- A DATA frame of the station is requested, being sent, or waits for its answer in its response window (R84, R92). -/
def segmentOut (s : State) : Prop :=
  (∃ f, s.request = some (.data f) ∧ ∀ g, s.line ≠ .sending g)
  ∨ (s.request = none ∧ ((∃ f, s.line = .sending (.data f)) ∨ (s.line = .quiet ∧ s.turn.timer = .responseWindow)
      ∨ ∃ h : Heard, h.began = .window ∧ (s.line = .receiving h ∨ s.line = .skipping h)))

/-- Every transmit context is sound and before FIX none has left DISABLED; at most one segment is outstanding, only during
the own turn of an ONLINE or LEAVING station, toward a destination that is not ABSENT (R83, R84, R87). -/
def TransmitSound (s : State) : Prop :=
  (∀ n, TxContextSound (s.txc n))
  ∧ (s.station = .starting ∨ s.station = .unconfigured → ∀ n, (s.txc n).state = .disabled)
  ∧ (∀ n m, (s.txc n).outstanding = true → (s.txc m).outstanding = true → n = m)
  ∧ ∀ n, (s.txc n).outstanding = true →
      (s.station = .online ∨ s.station = .leaving) ∧ s.turn.counter = s.ownAddr ∧ segmentOut s
      ∧ ∀ df, (s.txc n).defn = some df → (s.rosterOf df.station).state ≠ .absent

/-- Every chain that a queue, a transmit channel or a receive channel holds, with the ownership state of its head (R7,
R24). -/
def heldChains (s : State) : List (Owner × List DescId) :=
  (allQueues.flatMap fun q => (s.queue q).map fun h => (.queued q, s.chain h))
    ++ (allChans.flatMap fun n => (s.txc n).msg.toList.map fun h => (.transit n, s.chain h))
    ++ allChans.flatMap fun n => (s.rxc n).part.toList.map fun p => (.building n, s.chain p.head)

/-- The ownership state of the other members of a chain whose head has this one (R7). -/
def memberOwner : Owner → Owner
  | .queued _ => .linked
  | o => o

/-- Ownership states agree with queues and chains: every held chain is whole with its head and members so owned, no
descriptor stands twice, and every descriptor outside is HOST; a current segment is in its message, and a partial has its
count and its tail (R7, R24, R84, R111). -/
def OwnershipSound (s : State) : Prop :=
  (∀ x ∈ heldChains s, isChain s x.2 = true ∧ (∀ h, x.2.head? = some h → (s.desc h).owner = x.1)
    ∧ ∀ d ∈ x.2.tail, (s.desc d).owner = memberOwner x.1)
  ∧ ((heldChains s).flatMap (·.2)).Nodup ∧ (∀ d, (s.desc d).owner ≠ .host → d ∈ (heldChains s).flatMap (·.2))
  ∧ (∀ n h d, (s.txc n).msg = some h → (s.txc n).cur = some d → d ∈ s.chain h)
  ∧ ∀ n p, (s.rxc n).part = some p → (s.chain p.head).length = p.count ∧ (s.chain p.head).getLast? = some p.tail

/-- A delivered head's total and segments are those of a message (R6, R15). -/
def DeliveredSizes (s : State) : Prop :=
  ∀ d, (s.desc d).status = .received →
    (s.desc d).total ≤ 1024 ∧ 1 ≤ (s.desc d).segments ∧ (s.desc d).segments ≤ Config.chainLimit

end Sys2Proof.Safety
end

