-- ==== Sys2Proof/Certificates/Slice0/Obligations.lean ====
section
/-! DEFINITION. The statements about the station, in the order of OBLIGATIONS.json. -/

open Sys2Proof Sys2Proof.Machine Sys2Proof.Safety

/-! ## The queue of commands -/

/-- A step takes the command at the front of the queue and runs it with the rest waiting; with nothing waiting only
the time since RXD was last low grows, while RXD is not low. The queue and the idle step are the model's choice:
notes/assumptions/2.md, notes/assumptions/16.md. -/
def Obligations.StepRunsFrontCommand : Prop :=
  (∀ (c : Instr) (rest : List Instr) (s : State), s.pending = c :: rest → step s = exec c { s with pending := rest })
  ∧ ∀ s : State, s.pending = [] →
      step s = .next { s with
        sinceLow := if s.station = .starting ∨ s.line ≠ .quiet then s.sinceLow
                    else if s.rxdLow then 0 else min (s.sinceLow + 1) 161 }

/-! ## Resets and configuration -/

/-- HARD_RESET leaves every block at its reset values, samples the straps as the own address, and with CS# low at its end
has the bytes clocked in ignored until CS# rises (R22, R40, R56, R82, R83, R86, R136, R159, R164, R180, R188). The model's
choices: packet memory keeps its bytes until STARTING clears it (notes/assumptions/7.md), the waiting commands stay
(notes/assumptions/16.md), no answer is left (notes/assumptions/15.md), the level on RXD stays (notes/assumptions/8.md),
and CS# is an operand of the command (notes/assumptions/21.md). -/
def Obligations.HardResetSetsResetValues : Prop :=
  ∀ (a0 a1 a2 a3 csLow : Bool) (s : State), ∃ t, exec (.hardReset a0 a1 a2 a3 csLow) s = .next t
    ∧ t.station = .starting
    ∧ t.ownAddr.val = a0.toNat + 2 * a1.toNat + 4 * a2.toNat + 8 * a3.toNat
    ∧ (∀ d, t.desc d = { fill := 0, next := none, returnQueue := 0, label := 0, status := .none, peer := 0,
                         channel := 0, total := 0, segments := 0, owner := .host })
    ∧ (∀ q, t.queue q = [])
    ∧ (∀ n, t.txc n = { defn := none, state := .disabled, msg := none, cur := none, tally := 0, attempts := 0,
                        laters := 0, absence := 0, doubt := false, outstanding := false })
    ∧ (∀ n, t.rxc n = { defn := none, state := .disabled, source := none, part := none, label := 0, idle := 0,
                        progress := false, drops := 0, abandons := 0 })
    ∧ (∀ n a, t.tallyOf n a = none)
    ∧ (∀ a, t.rosterOf a = { state := .unknown, misses := 0 })
    ∧ t.cfg.rate = 0 ∧ t.cfg.markerPool = 0 ∧ t.cfg.mask = 0 ∧ t.cfg.length = 1
    ∧ (∀ e, look t.cfg.schedule e = none) ∧ t.cursor = 0
    ∧ t.turn = { counter := 0, flavour := .joining, quiet := 0, collided := 0, timer := .stopped, ownTurn := false }
    ∧ t.line = .quiet ∧ t.request = none ∧ t.drv = false ∧ t.txdBits = []
    ∧ t.events = { fault := false, noMarker := false, slip := false, abandon := false, drop := false,
                   malformed := false }
    ∧ t.counters = { dataSent := 0, passSent := 0, replySent := 0, invalidHeard := 0, slips := 0, collisions := 0,
                     unanswered := 0 }
    ∧ t.attnLow = false ∧ t.answer = [] ∧ t.portSkips = csLow ∧ t.rxdLow = s.rxdLow ∧ t.mem = s.mem
    ∧ t.pending = s.pending

/-- STARTING_END clears packet memory and enters UNCONFIGURED (R22, R56, R179); RESTART gives every block but packet
memory and the own address the values of a hard reset, in UNCONFIGURED, and answers DONE (R23, R40, R188, R189). The
level on RXD is no block's: notes/assumptions/8.md. -/
def Obligations.StartingEndAndRestart : Prop :=
  (∀ s : State, s.station = .starting → ∃ t, exec .startingEnd s = .next t
    ∧ t = { s with station := .unconfigured, mem := t.mem, sinceLow := 0 } ∧ ∀ a : Nat, t.mem.read a = 0)
  ∧ ∀ s : State, portTakes s = true →
      ∃ u t, exec (.hardReset false false false false false) s = .next u ∧ exec .restart s = .next t
        ∧ t = { u with station := .unconfigured, ownAddr := s.ownAddr, mem := s.mem, answer := [0xA0#8] }

/-- SET_LINE, DEFINE_TX and DEFINE_RX in UNCONFIGURED: in range they store their arguments and change nothing else;
out of range they answer BAD_ARGUMENT and change nothing (R182, R183, R184, R193). -/
def Obligations.DefinitionsStored : Prop :=
  (∀ (rate marker m0 m1 m2 m3 : Byte) (s : State), s.portSkips = false → s.station = .unconfigured →
    (∀ (r : Fin 4) (q : QueueId), rate.toNat = r.val → marker.toNat = q.val →
      ∃ t, exec (.setLine rate marker m0 m1 m2 m3) s = .next t
        ∧ t = { s with cfg := t.cfg, answer := [0xA0#8] }
        ∧ t.cfg = { s.cfg with rate := r, markerPool := q, mask := t.cfg.mask }
        ∧ ∀ k : Fin 8, t.cfg.mask.getLsbD k.val = m0.getLsbD k.val ∧ t.cfg.mask.getLsbD (8 + k.val) = m1.getLsbD k.val
            ∧ t.cfg.mask.getLsbD (16 + k.val) = m2.getLsbD k.val ∧ t.cfg.mask.getLsbD (24 + k.val) = m3.getLsbD k.val)
    ∧ (4 ≤ rate.toNat ∨ 32 ≤ marker.toNat →
        exec (.setLine rate marker m0 m1 m2 m3) s = .next { s with answer := [0xA5#8] }))
  ∧ (∀ (n st ch su no : Byte) (s : State), s.portSkips = false → s.station = .unconfigured →
    (∀ (i : ChanId) (a : Station) (c : ChanId) (q r : QueueId), n.toNat = i.val → st.toNat = a.val →
      ch.toNat = c.val → su.toNat = q.val → no.toNat = r.val → a ≠ s.ownAddr →
      ∃ t, exec (.defineTx n st ch su no) s = .next t ∧ t = { s with tx := t.tx, answer := [0xA0#8] }
        ∧ ∀ m, t.txc m =
            if m = i then { s.txc i with defn := some { station := a, channel := c, submit := q, notice := r } }
            else s.txc m)
    ∧ (8 ≤ n.toNat ∨ 16 ≤ st.toNat ∨ 8 ≤ ch.toNat ∨ 32 ≤ su.toNat ∨ 32 ≤ no.toNat ∨ st.toNat = s.ownAddr.val →
        exec (.defineTx n st ch su no) s = .next { s with answer := [0xA5#8] }))
  ∧ ∀ (n hp bp dq po pa : Byte) (s : State), s.portSkips = false → s.station = .unconfigured →
    (∀ (i : ChanId) (h b d : QueueId) (p : Policy), n.toNat = i.val → hp.toNat = h.val → bp.toNat = b.val →
      dq.toNat = d.val → po = (match p with | .refuse => 0x00#8 | .drop => 0x01#8) → pa ≠ 0 →
      ∃ t, exec (.defineRx n hp bp dq po pa) s = .next t ∧ t = { s with rx := t.rx, answer := [0xA0#8] }
        ∧ ∀ m, t.rxc m =
            if m = i then
              { s.rxc i with
                defn := some { headPool := h, bodyPool := b, delivery := d, policy := p, patience := pa.toNat } }
            else s.rxc m)
    ∧ (8 ≤ n.toNat ∨ 32 ≤ hp.toNat ∨ 32 ≤ bp.toNat ∨ 32 ≤ dq.toNat ∨ 2 ≤ po.toNat ∨ pa = 0 →
        exec (.defineRx n hp bp dq po pa) s = .next { s with answer := [0xA5#8] })

/-- DEFINE_SCHEDULE in UNCONFIGURED replaces the whole table (R185). -/
def Obligations.ScheduleReplaced : Prop :=
  ∀ (len : Byte) (entries : List Byte) (s : State), s.portSkips = false → s.station = .unconfigured →
    (argsNeeded 0x13#8 [len] = some (1 + if 1 ≤ len.toNat ∧ len.toNat ≤ 32 then len.toNat else 0))
    ∧ (len.toNat = 0 ∨ 32 < len.toNat → exec (.defineSchedule len []) s = .next { s with answer := [0xA5#8] })
    ∧ (1 ≤ len.toNat → len.toNat ≤ 32 → entries.length = len.toNat →
        ((∃ b ∈ entries, 8 ≤ b.toNat ∧ b ≠ 0xFF#8) →
          exec (.defineSchedule len entries) s = .next { s with answer := [0xA5#8] })
        ∧ ((∀ b ∈ entries, b.toNat < 8 ∨ b = 0xFF#8) →
          ∃ t, exec (.defineSchedule len entries) s = .next t
            ∧ t = { s with cfg := t.cfg, answer := [0xA0#8] }
            ∧ t.cfg = { s.cfg with schedule := t.cfg.schedule, length := len.toNat }
            ∧ ∀ e : Fin 32, look t.cfg.schedule e =
                (entries[e.val]?).bind fun b => if h : b.toNat < 8 then some ⟨b.toNat, h⟩ else none))

/-- FIX in UNCONFIGURED answers with the first check that fails and changes nothing, or freezes the configuration and
takes the station OFFLINE (R83, R110, R186, R187). The premise on the active length is kept by every step
(ScheduleAndCountersStayInRange). -/
def Obligations.FixChecksThenFreezes : Prop :=
  ∀ s : State, s.portSkips = false → s.station = .unconfigured → s.cfg.length ≤ 32 →
    let named : ChanId → Prop := fun n => ∃ e : Fin 32, e.val < s.cfg.length ∧ look s.cfg.schedule e = some n
    let fails : Nat → Prop := fun k =>
      match k with
      | 1 => ∀ n, ¬ named n
      | 2 => ∃ n, named n ∧ (s.txc n).defn = none
      | 3 => ∃ n, (s.txc n).defn ≠ none ∧ ¬ named n
      | 4 => ∃ n m a b, n ≠ m ∧ (s.txc n).defn = some a ∧ (s.txc m).defn = some b ∧ a.submit = b.submit
      | 5 => ∃ n a, (s.txc n).defn = some a ∧ (a.submit = s.cfg.markerPool ∨ ∃ m b, (s.rxc m).defn = some b ∧
          (a.submit = b.headPool ∨ a.submit = b.bodyPool ∨ a.submit = b.delivery))
      | _ => False
    (∀ k : Nat, 1 ≤ k → k ≤ 5 → fails k → (∀ j, 1 ≤ j → j < k → ¬ fails j) →
      exec .fix s = .next { s with answer := [0xA6#8, BitVec.ofNat 8 k] })
    ∧ ((∀ k, ¬ fails k) → ∃ t, exec .fix s = .next t
        ∧ t = { s with station := .offline, cursor := 0, tx := t.tx, rx := t.rx, answer := [0xA0#8, 0x00#8] }
        ∧ (∀ n, t.txc n = { defn := (s.txc n).defn, state := .disabled, msg := none, cur := none, tally := 0,
                            attempts := 0, laters := 0, absence := 0, doubt := false, outstanding := false })
        ∧ ∀ n, t.rxc n = { defn := (s.rxc n).defn, state := .disabled, source := none, part := none, label := 0,
                           idle := 0, progress := false, drops := (s.rxc n).drops, abandons := (s.rxc n).abandons })

/-- Outside UNCONFIGURED the configuration commands answer WRONG_STATE, and no command but a reset changes the
configuration or a channel's definition (R181, R187, R188). -/
def Obligations.ConfigurationFrozenAfterFix : Prop :=
  (∀ (c : Instr) (s : State), isConfigCommand c = true → wellFormed c = true → portTakes s = true →
    s.station ≠ .unconfigured → exec c s = .next { s with answer := [0xA2#8] })
  ∧ ∀ (c : Instr) (s t : State), s.station ≠ .unconfigured → isReset c = false → exec c s = .next t →
      t.cfg = s.cfg ∧ (∀ n, (t.txc n).defn = (s.txc n).defn) ∧ ∀ n, (t.rxc n).defn = (s.rxc n).defn

/-! ## Queues, descriptors and buffers -/

/-- A PUSH answered DONE queues the head, links the members and changes nothing else (R10, R27, R28). -/
def Obligations.PushQueuesChain : Prop :=
  ∀ (q d : Byte) (qi : QueueId) (h : DescId) (ms : List DescId) (s : State), portTakes s = true →
    q.toNat = qi.val → d.toNat = h.val → isChain s (h :: ms) = true → allOwned s (h :: ms) .host = true →
    ∃ t, exec (.push q d) s = .next t
      ∧ t = { s with descs := t.descs, queues := t.queues, answer := [0xA0#8] }
      ∧ (∀ r, t.queue r = if r = qi then s.queue r ++ [h] else s.queue r)
      ∧ ∀ e, t.desc e = { s.desc e with
          owner := if e = h then .queued qi else if e ∈ ms then .linked else (s.desc e).owner }

/-- PUSH answers with the first condition of R27 that holds; a refused PUSH changes nothing. -/
def Obligations.PushChecksInOrder : Prop :=
  ∀ (q d : Byte) (h : DescId) (s : State), portTakes s = true → d.toNat = h.val →
    (32 ≤ q.toNat → exec (.push q d) s = .next { s with answer := [0xA5#8] })
    ∧ ∀ qi : QueueId, q.toNat = qi.val →
      ((s.desc h).owner ≠ .host → exec (.push q d) s = .next { s with answer := [0xA3#8] })
      ∧ (∀ (ms : List DescId) (e : DescId), leadsTo s (h :: ms) e = true → (h :: ms).Nodup → (h :: ms).length ≤ 16 →
          allOwned s (h :: ms) .host = true →
          (e ∈ h :: ms → exec (.push q d) s = .next { s with answer := [0xA4#8] })
          ∧ (e ∉ h :: ms → (h :: ms).length = 16 → exec (.push q d) s = .next { s with answer := [0xA4#8] })
          ∧ (e ∉ h :: ms → (h :: ms).length < 16 → (s.desc e).owner ≠ .host →
              exec (.push q d) s = .next { s with answer := [0xA3#8] }))
      ∧ ∀ ms : List DescId, isChain s (h :: ms) = true → allOwned s (h :: ms) .host = true →
          ∃ t, exec (.push q d) s = .next t ∧ t.answer = [0xA0#8] ∧ t.queue qi = s.queue qi ++ [h]

/-- POP removes the oldest entry, makes its chain HOST and returns head and length; on an empty queue it answers EMPTY
(R29). -/
def Obligations.PopHandsChainToHost : Prop :=
  ∀ (q : Byte) (s : State), portTakes s = true →
    (32 ≤ q.toNat → exec (.pop q) s = .next { s with answer := [0xA5#8] })
    ∧ ∀ qi : QueueId, q.toNat = qi.val →
      (s.queue qi = [] → exec (.pop q) s = .next { s with answer := [0xA1#8] })
      ∧ ∀ (h : DescId) (ms rest : List DescId), s.queue qi = h :: rest → isChain s (h :: ms) = true →
          ∃ t, exec (.pop q) s = .next t
            ∧ t = { s with descs := t.descs, queues := t.queues,
                           answer := [0xA0#8, BitVec.ofNat 8 h.val, BitVec.ofNat 8 (ms.length + 1)] }
            ∧ (∀ r, t.queue r = if r = qi then rest else s.queue r)
            ∧ ∀ e, t.desc e = { s.desc e with owner := if e ∈ h :: ms then .host else (s.desc e).owner }

/-- QUEUE_STATUS returns a queue's count and head; READ_DESC returns the whole record of a descriptor in every
ownership state; both change nothing else (R18, R30, R195). -/
def Obligations.QueueAndDescriptorReads : Prop :=
  (∀ (q : Byte) (s : State), portTakes s = true →
    (32 ≤ q.toNat → exec (.queueStatus q) s = .next { s with answer := [0xA5#8] })
    ∧ ∀ qi : QueueId, q.toNat = qi.val →
        exec (.queueStatus q) s = .next { s with
          answer := [0xA0#8, BitVec.ofNat 8 ((s.queue qi).length / 256), BitVec.ofNat 8 (s.queue qi).length]
            ++ (match s.queue qi with | [] => [0x00#8, 0x01#8] | h :: _ => [BitVec.ofNat 8 h.val, 0x00#8]) })
  ∧ ∀ (d : Byte) (i : DescId) (s : State), portTakes s = true → d.toNat = i.val →
      let x := s.desc i
      exec (.readDesc d) s = .next { s with
        answer := [0xA0#8, BitVec.ofNat 8 x.fill]
          ++ (match x.next with | none => [0x00#8, 0x01#8] | some e => [BitVec.ofNat 8 e.val, 0x00#8])
          ++ [BitVec.ofNat 8 x.returnQueue.val, x.label,
              BitVec.ofNat 8 ([DescStatus.none, .received, .delivered, .cancelled, .closed, .lost, .noAnswer,
                               .peerBusy, .absent, .malformed, .marker].idxOf x.status),
              BitVec.ofNat 8 x.peer.val, BitVec.ofNat 8 x.channel.val, BitVec.ofNat 8 (x.total / 256),
              BitVec.ofNat 8 x.total, BitVec.ofNat 8 x.segments]
          ++ (match x.owner with
              | .host => [0x00#8, 0x00#8]
              | .queued q => [0x01#8, BitVec.ofNat 8 q.val]
              | .linked => [0x02#8, 0x00#8]
              | .transit n => [0x03#8, BitVec.ofNat 8 n.val]
              | .building n => [0x04#8, BitVec.ofNat 8 n.val]) }

/-- WRITE_DESC: arguments first, ownership second; on DONE the four host fields of the descriptor take the argument
values and nothing else changes (R19, R193). -/
def Obligations.WriteDescWritesFourFields : Prop :=
  ∀ (d fill nextIndex nextMarker returnQueue label : Byte) (i : DescId) (s : State), portTakes s = true →
    d.toNat = i.val →
    (64 < fill.toNat ∨ (nextMarker ≠ 0x00#8 ∧ nextMarker ≠ 0x01#8) ∨ 31 < returnQueue.toNat →
      exec (.writeDesc d fill nextIndex nextMarker returnQueue label) s = .next { s with answer := [0xA5#8] })
    ∧ ∀ (nx : Option DescId) (rq : QueueId), fill.toNat ≤ 64 → returnQueue.toNat = rq.val →
        (nextMarker = 0x00#8 ∧ nx.map (·.val) = some nextIndex.toNat ∨ nextMarker = 0x01#8 ∧ nx = none) →
        ((s.desc i).owner ≠ .host →
          exec (.writeDesc d fill nextIndex nextMarker returnQueue label) s = .next { s with answer := [0xA3#8] })
        ∧ ((s.desc i).owner = .host →
          ∃ t, exec (.writeDesc d fill nextIndex nextMarker returnQueue label) s = .next t
            ∧ t = { s with descs := t.descs, answer := [0xA0#8] }
            ∧ ∀ e, t.desc e =
                if e = i then { s.desc i with fill := fill.toNat, next := nx, returnQueue := rq, label := label }
                else s.desc e)

/-- READ_BUFFER and WRITE_BUFFER: arguments first, ownership second; a read changes nothing, a write changes exactly
the addressed bytes, and a transaction cut short writes nothing (R1, R20, R21). The premise that packet memory is in
its canonical form is kept by every step (PacketMemoryStaysCanonical). -/
def Obligations.BufferReadAndWrite : Prop :=
  (∀ (d offset count : Byte) (i : DescId) (s : State), portTakes s = true → d.toNat = i.val →
    (63 < offset.toNat ∨ count.toNat = 0 ∨ 64 < count.toNat ∨ 64 < offset.toNat + count.toNat →
      exec (.readBuffer d offset count) s = .next { s with answer := [0xA5#8] })
    ∧ (1 ≤ count.toNat → offset.toNat + count.toNat ≤ 64 →
        ((s.desc i).owner ≠ .host → exec (.readBuffer d offset count) s = .next { s with answer := [0xA3#8] })
        ∧ ((s.desc i).owner = .host →
          ∃ t, exec (.readBuffer d offset count) s = .next t ∧ t = { s with answer := t.answer }
            ∧ t.sdoByte 0 = 0xA0#8
            ∧ ∀ k : Nat, t.sdoByte (1 + k) =
                if k < count.toNat then s.mem.read (64 * i.val + offset.toNat + k) else 0)))
  ∧ ∀ (d offset count : Byte) (data : List Byte) (i : DescId) (s : State), portTakes s = true → d.toNat = i.val →
    s.mem.wf = true →
    (argsNeeded 0x33#8 [d, offset, count] =
      some (3 + if 1 ≤ count.toNat ∧ count.toNat ≤ 64 then count.toNat else 0))
    ∧ (data.length < count.toNat → count.toNat ≤ 64 →
        decodeTransaction (0x33#8 :: d :: offset :: count :: data) =
          .transactionAbort (0x33#8 :: d :: offset :: count :: data))
    ∧ (data.length = (if count.toNat ≤ 64 then count.toNat else 0) →
        (63 < offset.toNat ∨ count.toNat = 0 ∨ 64 < count.toNat ∨ 64 < offset.toNat + count.toNat →
          exec (.writeBuffer d offset count data) s = .next { s with answer := [0xA5#8] })
        ∧ (1 ≤ count.toNat → offset.toNat + count.toNat ≤ 64 →
          ((s.desc i).owner ≠ .host → exec (.writeBuffer d offset count data) s = .next { s with answer := [0xA3#8] })
          ∧ ((s.desc i).owner = .host →
            ∃ t, exec (.writeBuffer d offset count data) s = .next t
              ∧ t = { s with mem := t.mem, answer := [0xA0#8] }
              ∧ ∀ a : Nat, t.mem.read a =
                  if 64 * i.val + offset.toNat ≤ a ∧ a < 64 * i.val + offset.toNat + count.toNat then
                    data.getD (a - (64 * i.val + offset.toNat)) 0
                  else s.mem.read a)))

/-! ## Station and channel commands -/

/-- JOIN in OFFLINE starts LISTENING(joining); in the other states it is refused (R56, R70, R71, R113).
That the level on RXD is kept only while the line interface is held is the model's choice: notes/assumptions/8.md. -/
def Obligations.JoinStartsListening : Prop :=
  (∀ s : State, s.portSkips = false → s.station = .offline → ∃ t, exec .join s = .next t
    ∧ t = { s with station := .listening, roster := t.roster, tallies := t.tallies, answer := [0xA0#8],
                   line := t.line, turn := t.turn, rxdLow := false }
    ∧ (∀ a, t.rosterOf a = { state := .unknown, misses := 0 }) ∧ (∀ n a, t.tallyOf n a = none)
    ∧ (s.rxdLow = false → 20 * Config.bitTime s.cfg.rate < s.sinceLow →
        t.line = .quiet ∧ t.turn = { s.turn with flavour := .joining, quiet := 0, collided := 0, timer := .listenWait })
    ∧ (s.rxdLow = true ∨ s.sinceLow ≤ 20 * Config.bitTime s.cfg.rate →
        t.line = .skipping { began := .other, counted := false, remainder := false }
        ∧ t.turn = { s.turn with flavour := .joining, quiet := 0, collided := 0, timer := .stopped }))
  ∧ ∀ s : State, s.portSkips = false → s.station ≠ .offline →
      exec .join s = .next { s with answer := [if s.station = .starting then 0xA8#8 else 0xA2#8] }

/-- LEAVE by station state: refused; LEAVING while a segment is outstanding; else OFFLINE, where every assembly and discard
ends, with the exit from ONLINE made only from ONLINE: a message in doubt fails with NO_ANSWER, the others are rewound (R57,
R68, R76, R78, R99, R105, R131, R136). The model's choices: the returned messages join a queue before the returned partials
(notes/assumptions/10.md), and a line that is cut counts as low (notes/assumptions/8.md). -/
def Obligations.LeaveByStationState : Prop :=
  ∀ s : State, s.portSkips = false →
    (s.station = .unconfigured ∨ s.station = .offline ∨ s.station = .leaving →
      exec .leave s = .next { s with answer := [0xA2#8] })
    ∧ (∀ n, s.station = .online → onlyOutstanding s n = true →
      exec .leave s = .next { s with station := .leaving, answer := [0xA0#8] })
    ∧ (∀ parts, s.station = .listening → ending s (fun _ => false) RxChan.busy (fun _ => []) parts = true →
      ∃ t, exec .leave s = .next t
        ∧ t = { s with station := .offline, line := .quiet, request := none, turn := turnOff s.turn, rx := t.rx,
                       descs := t.descs, queues := t.queues, sinceLow := if s.line = .quiet then s.sinceLow else 0,
                       events := { s.events with abandon := s.events.abandon || !noneBusy s }, answer := [0xA0#8] }
        ∧ (∀ n, t.rxc n = afterOffline (s.rxc n))
        ∧ (∀ q, t.queue q = s.queue q ++ endedTo s (fun _ => []) parts q)
        ∧ ∀ e, t.desc e = endedDesc s (fun _ => []) parts e)
    ∧ ∀ msgs parts, s.station = .online → nothingOutstanding s = true →
      ending s TxChan.doubt RxChan.busy msgs parts = true →
      ∃ t, exec .leave s = .next t
        ∧ t = { s with station := .offline, line := .quiet, request := none, turn := turnOff s.turn, tx := t.tx,
                       rx := t.rx, descs := t.descs, queues := t.queues,
                       sinceLow := if s.line = .quiet then s.sinceLow else 0,
                       events := { s.events with abandon := s.events.abandon || !noneBusy s }, answer := [0xA0#8] }
        ∧ (∀ n, t.txc n = afterExit (s.txc n)) ∧ (∀ n, t.rxc n = afterOffline (s.rxc n))
        ∧ (∀ q, t.queue q = s.queue q ++ endedTo s msgs parts q) ∧ ∀ e, t.desc e = endedDesc s msgs parts e

/-- The checks the channel commands share, before the channel's state is looked at (R106, R132). -/
def Obligations.ChannelCommandChecks : Prop :=
  ∀ (n : Byte) (s : State), portTakes s = true →
    (∀ c ∈ [Instr.enableTx n, .clearTx n, .teardownTx n],
      (8 ≤ n.toNat → exec c s = .next { s with answer := [0xA5#8] })
      ∧ ∀ i : ChanId, n.toNat = i.val →
        (s.station = .unconfigured → exec c s = .next { s with answer := [0xA2#8] })
        ∧ (s.station ≠ .unconfigured → (s.txc i).defn = none → exec c s = .next { s with answer := [0xA5#8] }))
    ∧ ∀ c ∈ [Instr.enableRx n, .haltRx n, .clearRx n, .teardownRx n],
      (8 ≤ n.toNat → exec c s = .next { s with answer := [0xA5#8] })
      ∧ ∀ i : ChanId, n.toNat = i.val →
        (s.station = .unconfigured → exec c s = .next { s with answer := [0xA2#8] })
        ∧ (s.station ≠ .unconfigured → (s.rxc i).defn = none → exec c s = .next { s with answer := [0xA5#8] })

/-- ENABLE_TX, CLEAR_TX, ENABLE_RX and CLEAR_RX open a channel from the one state that permits them, keeping its tally
or its counters, and are refused in every other (R107, R108, R133, R134). -/
def Obligations.ChannelsOpened : Prop :=
  ∀ (n : Byte) (i : ChanId) (s : State), n.toNat = i.val → portTakes s = true → s.station ≠ .unconfigured →
    (∀ (c : Instr) (from' : TxState), (c = .enableTx n ∧ from' = .disabled ∨ c = .clearTx n ∧ from' = .halted) →
      (s.txc i).defn ≠ none →
      ((s.txc i).state ≠ from' → exec c s = .next { s with answer := [0xA2#8] })
      ∧ ((s.txc i).state = from' → ∃ t, exec c s = .next t ∧ t = { s with tx := t.tx, answer := [0xA0#8] }
          ∧ ∀ m, t.txc m =
              if m = i then
                { defn := (s.txc i).defn, tally := (s.txc i).tally, state := .idle, msg := none, cur := none,
                  attempts := 0, laters := 0, absence := 0, doubt := false, outstanding := false }
              else s.txc m))
    ∧ ∀ (c : Instr) (from' : RxState), (c = .enableRx n ∧ from' = .disabled ∨ c = .clearRx n ∧ from' = .halted) →
      (s.rxc i).defn ≠ none →
      ((s.rxc i).state ≠ from' → exec c s = .next { s with answer := [0xA2#8] })
      ∧ ((s.rxc i).state = from' → ∃ t, exec c s = .next t
          ∧ t = { s with rx := t.rx, tallies := t.tallies, answer := [0xA0#8] }
          ∧ (∀ m, t.rxc m =
              if m = i then { s.rxc i with state := .idle, source := none, part := none, idle := 0, progress := false }
              else s.rxc m)
          ∧ ∀ m a, t.tallyOf m a = if m = i ∧ c = .enableRx n then none else s.tallyOf m a)

/-- TEARDOWN_TX with no message in hand: refused in DISABLED and TEARING; TEARING while a segment is outstanding; else
the submit queue is flushed oldest first, a marker with the count is pushed and the channel is DISABLED (R142, R144,
R146 to R148, R153). The flushed messages name one return queue, which is none of the queues the teardown uses, and the
marker pool's oldest entry is a single descriptor. -/
def Obligations.TeardownFlushesSubmitQueue : Prop :=
  ∀ (n : Byte) (i : ChanId) (df : TxDef) (s : State), n.toNat = i.val → portTakes s = true →
    s.station ≠ .unconfigured → (s.txc i).defn = some df →
    ((s.txc i).state = .disabled ∨ (s.txc i).state = .tearing →
      exec (.teardownTx n) s = .next { s with answer := [0xA2#8] })
    ∧ ((s.txc i).state = .active → (s.txc i).outstanding = true →
      ∃ t, exec (.teardownTx n) s = .next t ∧ t = { s with tx := t.tx, answer := [0xA0#8] }
        ∧ ∀ m, t.txc m = if m = i then { s.txc i with state := .tearing } else s.txc m)
    ∧ ∀ (rq : QueueId) (mk : DescId) (rest : List DescId),
      ((s.txc i).state = .idle ∨ (s.txc i).state = .halted) → (s.txc i).msg = none →
      rq ≠ df.submit → rq ≠ s.cfg.markerPool → rq ≠ df.notice → df.submit ≠ s.cfg.markerPool →
      df.submit ≠ df.notice →
      (s.queue df.submit).Nodup → allOwned s (s.queue df.submit) (.queued df.submit) = true →
      (∀ e ∈ s.queue df.submit, (s.desc e).returnQueue = rq ∧ allOwned s (s.chain e).tail .linked = true) →
      s.queue s.cfg.markerPool = mk :: rest → (s.desc mk).next = none → mk ∉ s.queue df.submit →
      (s.desc mk).owner ≠ .linked →
      ∃ t, exec (.teardownTx n) s = .next t
        ∧ t = { s with tx := t.tx, queues := t.queues, descs := t.descs, answer := [0xA0#8] }
        ∧ (∀ m, t.txc m =
            if m = i then
              { defn := some df, tally := (s.txc i).tally, state := .disabled, msg := none, cur := none,
                attempts := 0, laters := 0, absence := 0, doubt := false, outstanding := false }
            else s.txc m)
        ∧ (∀ q, t.queue q =
            (if q = df.submit then [] else if q = s.cfg.markerPool then rest else s.queue q)
              ++ (if q = rq then s.queue df.submit else []) ++ (if q = df.notice then [mk] else []))
        ∧ ∀ e, t.desc e =
            if e = mk then
              { s.desc mk with fill := 0, next := none, status := .marker, peer := df.station, channel := i,
                               total := (s.queue df.submit).length, owner := .queued df.notice }
            else if e ∈ s.queue df.submit then
              { s.desc e with status := .cancelled, peer := df.station, channel := i, owner := .queued rq }
            else s.desc e

/-- TEARDOWN_TX of an ACTIVE channel with nothing outstanding, an empty submit queue and an empty marker pool: the
message in hand goes back CANCELLED, doubt advances the tally, and NO_MARKER is set (R10, R99, R100, R142, R145, R148,
R155). -/
def Obligations.TeardownCancelsMessageInHand : Prop :=
  ∀ (n : Byte) (i : ChanId) (df : TxDef) (h : DescId) (ms : List DescId) (s : State), n.toNat = i.val →
    portTakes s = true → s.station ≠ .unconfigured → (s.txc i).defn = some df → (s.txc i).state = .active →
    (s.txc i).outstanding = false → (s.txc i).msg = some h → isChain s (h :: ms) = true →
    s.queue df.submit = [] → s.queue s.cfg.markerPool = [] →
    (s.desc h).returnQueue ≠ df.submit → (s.desc h).returnQueue ≠ s.cfg.markerPool →
    ∃ t, exec (.teardownTx n) s = .next t
      ∧ t = { s with tx := t.tx, queues := t.queues, descs := t.descs, answer := [0xA0#8],
                     events := { s.events with noMarker := true } }
      ∧ (∀ m, t.txc m =
          if m = i then
            { defn := some df, tally := if (s.txc i).doubt then (s.txc i).tally + 1 else (s.txc i).tally,
              state := .disabled, msg := none, cur := none, attempts := 0, laters := 0, absence := 0,
              doubt := false, outstanding := false }
          else s.txc m)
      ∧ (∀ q, t.queue q = s.queue q ++ (if q = (s.desc h).returnQueue then [h] else []))
      ∧ ∀ e, t.desc e =
          if e = h then
            { s.desc h with status := .cancelled, peer := df.station, channel := i,
                            owner := .queued (s.desc h).returnQueue }
          else if e ∈ ms then { s.desc e with owner := .linked } else s.desc e

/-- HALT_RX by channel state, and the abandonment that HALT_RX and PATIENCE_EXPIRY make: the partial's descriptors go
back to the pools in chain order with fill 0 and next NONE, the abandon counter rises and ABANDON is set (R13, R34,
R128, R129, R135, R137). PATIENCE_EXPIRY as a command of its own is the model's choice: notes/assumptions/6.md. -/
def Obligations.AbandonedPartialReturns : Prop :=
  ∀ (n : Byte) (i : ChanId) (df : RxDef) (s : State), n.toNat = i.val → portTakes s = true →
    s.station ≠ .unconfigured → (s.rxc i).defn = some df →
    ((s.rxc i).state = .disabled ∨ (s.rxc i).state = .halted →
      exec (.haltRx n) s = .next { s with answer := [0xA2#8] })
    ∧ ((s.rxc i).state = .idle →
      ∃ t, exec (.haltRx n) s = .next t ∧ t = { s with rx := t.rx, answer := [0xA0#8] }
        ∧ ∀ m, t.rxc m =
            if m = i then { s.rxc i with state := .halted, source := none, part := none, idle := 0, progress := false }
            else s.rxc m)
    ∧ ((s.rxc i).state = .discarding → (s.rxc i).part = none →
      ∃ t, exec (.haltRx n) s = .next t
        ∧ t = { s with rx := t.rx, events := { s.events with abandon := true }, answer := [0xA0#8] }
        ∧ ∀ m, t.rxc m =
            if m = i then
              { s.rxc i with state := .halted, source := none, part := none, idle := 0, progress := false,
                             abandons := min ((s.rxc i).abandons + 1) 255 }
            else s.rxc m)
    ∧ ∀ (p : Assembly) (bs : List DescId) (c : Instr) (final : RxState) (answer : List Byte),
      (s.rxc i).state = .assembling → (s.rxc i).part = some p → isChain s (p.head :: bs) = true →
      (c = .haltRx n ∧ final = .halted ∧ answer = [0xA0#8]
        ∨ c = .patienceExpiry i ∧ final = .idle ∧ answer = s.answer ∧ s.station = .online
          ∧ (s.rxc i).source = some s.turn.counter ∧ (s.rxc i).progress = false
          ∧ df.patience = (s.rxc i).idle + 1) →
      ∃ t, exec c s = .next t
        ∧ t = { s with rx := t.rx, queues := t.queues, descs := t.descs, answer := answer,
                       events := { s.events with abandon := true } }
        ∧ (∀ m, t.rxc m =
            if m = i then
              { s.rxc i with state := final, source := none, part := none, idle := 0, progress := false,
                             abandons := min ((s.rxc i).abandons + 1) 255 }
            else s.rxc m)
        ∧ (∀ q, t.queue q =
            s.queue q ++ (if q = df.headPool then [p.head] else []) ++ (if q = df.bodyPool then bs else []))
        ∧ ∀ e, t.desc e =
            if e = p.head then { s.desc e with fill := 0, next := none, owner := .queued df.headPool }
            else if e ∈ bs then { s.desc e with fill := 0, next := none, owner := .queued df.bodyPool }
            else s.desc e

/-- TEARDOWN_RX: refused in DISABLED; with no partial it pushes a marker of total 0 and disables the channel; a partial
goes back to its pools uncounted before the marker pool is popped, which then gives a marker of total 1, or is empty and
NO_MARKER is set (R13, R150, R153, R155). -/
def Obligations.TeardownRxReturnsPartial : Prop :=
  ∀ (n : Byte) (i : ChanId) (df : RxDef) (s : State), n.toNat = i.val → portTakes s = true →
    s.station ≠ .unconfigured → (s.rxc i).defn = some df →
    ((s.rxc i).state = .disabled → exec (.teardownRx n) s = .next { s with answer := [0xA2#8] })
    ∧ (∀ (mk : DescId) (rest : List DescId), (s.rxc i).state ≠ .disabled → (s.rxc i).part = none →
      s.queue s.cfg.markerPool = mk :: rest →
      ∃ t, exec (.teardownRx n) s = .next t
        ∧ t = { s with rx := t.rx, tallies := t.tallies, queues := t.queues, descs := t.descs, answer := [0xA0#8] }
        ∧ (∀ m, t.rxc m =
            if m = i then { s.rxc i with state := .disabled, source := none, part := none, idle := 0, progress := false }
            else s.rxc m)
        ∧ (∀ m a, t.tallyOf m a = if m = i then none else s.tallyOf m a)
        ∧ (∀ q, t.queue q =
            (if q = s.cfg.markerPool then (match (s.desc mk).next with | none => rest | some e => rest ++ [e])
             else s.queue q) ++ (if q = df.delivery then [mk] else []))
        ∧ ∀ e, t.desc e =
            if e = mk then
              { s.desc mk with fill := 0, next := none, status := .marker, peer := s.ownAddr, channel := i, total := 0,
                               owner := .queued df.delivery }
            else if (s.desc mk).next = some e then { s.desc e with owner := .queued s.cfg.markerPool } else s.desc e)
    ∧ ((s.rxc i).state ≠ .disabled → (s.rxc i).part = none → s.queue s.cfg.markerPool = [] →
      ∃ t, exec (.teardownRx n) s = .next t
        ∧ t = { s with rx := t.rx, tallies := t.tallies, answer := [0xA0#8],
                       events := { s.events with noMarker := true } }
        ∧ (∀ m, t.rxc m =
            if m = i then { s.rxc i with state := .disabled, source := none, part := none, idle := 0, progress := false }
            else s.rxc m)
        ∧ ∀ m a, t.tallyOf m a = if m = i then none else s.tallyOf m a)
    ∧ ∀ (p : Assembly) (bs : List DescId), (s.rxc i).state = .assembling → (s.rxc i).part = some p →
      isChain s (p.head :: bs) = true →
      let back := partialDesc s df (p.head :: bs)
      let after := fun q => s.queue q ++ partialTo df (p.head :: bs) q
      (after s.cfg.markerPool = [] →
        ∃ t, exec (.teardownRx n) s = .next t
          ∧ t = { s with rx := t.rx, tallies := t.tallies, queues := t.queues, descs := t.descs, answer := [0xA0#8],
                         events := { s.events with noMarker := true } }
          ∧ (∀ m, t.rxc m =
              if m = i then { s.rxc i with state := .disabled, source := none, part := none, idle := 0, progress := false }
              else s.rxc m)
          ∧ (∀ m a, t.tallyOf m a = if m = i then none else s.tallyOf m a)
          ∧ (∀ q, t.queue q = after q) ∧ ∀ e, t.desc e = back e)
      ∧ ∀ (mk : DescId) (rest : List DescId), after s.cfg.markerPool = mk :: rest →
        ∃ t, exec (.teardownRx n) s = .next t
          ∧ t = { s with rx := t.rx, tallies := t.tallies, queues := t.queues, descs := t.descs, answer := [0xA0#8] }
          ∧ (∀ m, t.rxc m =
              if m = i then { s.rxc i with state := .disabled, source := none, part := none, idle := 0, progress := false }
              else s.rxc m)
          ∧ (∀ m a, t.tallyOf m a = if m = i then none else s.tallyOf m a)
          ∧ (∀ q, t.queue q =
              (if q = s.cfg.markerPool then rest ++ (back mk).next.toList else after q)
                ++ (if q = df.delivery then [mk] else []))
          ∧ ∀ e, t.desc e =
              if e = mk then
                { back mk with fill := 0, next := none, status := .marker, peer := s.ownAddr, channel := i, total := 1,
                               owner := .queued df.delivery }
              else if (back mk).next = some e then { back e with owner := .queued s.cfg.markerPool } else back e

/-! ## Status reads -/

/-- READ_STATION, READ_ROSTER, READ_TX and READ_RX return the values they are to return and change nothing else (R168
to R171, R194, R196). -/
def Obligations.StatusReadsReturnContexts : Prop :=
  ∀ s : State, portTakes s = true →
    exec .readStation s = .next { s with
      answer := [0xA0#8, BitVec.ofNat 8 ([StationState.starting, .unconfigured, .offline, .listening, .online,
                                          .leaving].idxOf s.station),
                 (match s.turn.flavour with | .joining => 0x00#8 | .resync => 0x01#8),
                 BitVec.ofNat 8 s.ownAddr.val, BitVec.ofNat 8 s.turn.counter.val, BitVec.ofNat 8 s.turn.quiet,
                 BitVec.ofNat 8 s.turn.collided] }
    ∧ (∃ t, exec .readRoster s = .next t ∧ t = { s with answer := t.answer } ∧ t.answer.length = 17
        ∧ t.sdoByte 0 = 0xA0#8
        ∧ ∀ a : Station, t.sdoByte (1 + a.val) =
            BitVec.ofNat 8 ([Presence.unknown, .present, .absent].idxOf (s.rosterOf a).state
              + 4 * (s.rosterOf a).misses))
    ∧ (∀ n : Byte, 8 ≤ n.toNat →
        exec (.readTx n) s = .next { s with answer := [0xA5#8] }
        ∧ exec (.readRx n) s = .next { s with answer := [0xA5#8] })
    ∧ ∀ (n : Byte) (i : ChanId), n.toNat = i.val →
      let ref : Option DescId → List Byte := fun r =>
        match r with | none => [0x00#8, 0x01#8] | some d => [BitVec.ofNat 8 d.val, 0x00#8]
      let c := s.txc i
      let r := s.rxc i
      exec (.readTx n) s = .next { s with
        answer := [0xA0#8, if c.defn = none then 0x00#8 else 0x01#8,
                   BitVec.ofNat 8 ([TxState.disabled, .idle, .active, .tearing, .halted].idxOf c.state)]
          ++ ref c.msg ++ ref c.cur
          ++ [BitVec.ofNat 8 c.tally.val, BitVec.ofNat 8 c.attempts, BitVec.ofNat 8 c.laters,
              BitVec.ofNat 8 c.absence, BitVec.ofNat 8 (c.doubt.toNat + 2 * c.outstanding.toNat)] }
      ∧ ∃ t, exec (.readRx n) s = .next t ∧ t = { s with answer := t.answer } ∧ t.answer.length = 32
        ∧ t.answer.take 16 = [0xA0#8, if r.defn = none then 0x00#8 else 0x01#8,
            BitVec.ofNat 8 ([RxState.disabled, .idle, .assembling, .discarding, .halted].idxOf r.state),
            match r.source with | none => 0xFF#8 | some a => BitVec.ofNat 8 a.val]
          ++ (match r.part with
              | none => ref none ++ ref none ++ [0x00#8, 0x00#8, 0x00#8]
              | some p => ref (some p.head) ++ ref (some p.tail)
                  ++ [BitVec.ofNat 8 p.count, BitVec.ofNat 8 (p.length / 256), BitVec.ofNat 8 p.length])
          ++ [r.label, BitVec.ofNat 8 r.idle, BitVec.ofNat 8 r.progress.toNat, BitVec.ofNat 8 r.drops,
              BitVec.ofNat 8 r.abandons]
        ∧ ∀ a : Station, t.sdoByte (16 + a.val) =
            match s.tallyOf i a with | none => 0xFF#8 | some v => BitVec.ofNat 8 v.val

/-- READ_COUNTERS returns the seven station counters and the sixteen channel counters, and clears them with option 01h;
READ_EVENTS returns the event flags and clears them (R161, R165, R196). -/
def Obligations.CountersAndEventsReadAndCleared : Prop :=
  ∀ s : State, portTakes s = true →
    (∀ option : Byte, option ≠ 0x00#8 → option ≠ 0x01#8 →
      exec (.readCounters option) s = .next { s with answer := [0xA5#8] })
    ∧ (∀ option : Byte, option = 0x00#8 ∨ option = 0x01#8 →
      ∃ t, exec (.readCounters option) s = .next t
        ∧ t = { s with answer := t.answer, counters := t.counters, rx := t.rx }
        ∧ t.answer.length = 31
        ∧ (let k := s.counters
           let w : Nat → List Byte := fun v => [BitVec.ofNat 8 (v / 256), BitVec.ofNat 8 v]
           t.answer.take 15 = 0xA0#8 :: (w k.dataSent ++ w k.passSent ++ w k.replySent ++ w k.invalidHeard
             ++ w k.slips ++ w k.collisions ++ w k.unanswered))
        ∧ (∀ n : ChanId, t.sdoByte (15 + 2 * n.val) = BitVec.ofNat 8 (s.rxc n).drops
            ∧ t.sdoByte (16 + 2 * n.val) = BitVec.ofNat 8 (s.rxc n).abandons)
        ∧ (option = 0x00#8 → t.counters = s.counters ∧ ∀ n, t.rxc n = s.rxc n)
        ∧ (option = 0x01#8 → t.counters = { dataSent := 0, passSent := 0, replySent := 0, invalidHeard := 0,
                                            slips := 0, collisions := 0, unanswered := 0 }
            ∧ ∀ n, t.rxc n = { s.rxc n with drops := 0, abandons := 0 }))
    ∧ exec .readEvents s = .next { s with
        events := { fault := false, noMarker := false, slip := false, abandon := false, drop := false,
                    malformed := false },
        answer := [0xA0#8, BitVec.ofNat 8 (s.events.fault.toNat + 2 * s.events.noMarker.toNat
          + 4 * s.events.slip.toNat + 8 * s.events.abandon.toNat + 16 * s.events.drop.toNat
          + 32 * s.events.malformed.toNat)] }

/-- An unknown code answers BAD_COMMAND, or STARTING in STARTING; a transaction given up before its command is taken, and
one whose bytes are ignored after a hard reset, change nothing; SDO is released with CS# high, carries 00h before the taking
and the answer after it (R172, R174 to R176, R180). That no answer stands after a transaction without a command is the
model's choice: notes/assumptions/15.md; so is that the ignored bytes are one transaction: notes/assumptions/21.md. -/
def Obligations.TransactionsWithoutEffect : Prop :=
  (∀ (code : Byte) (s : State), s.portSkips = false → isCommandCode code = false →
    exec (.unknownCommand code) s =
      .next { s with answer := [if s.station = .starting then 0xA8#8 else 0xA7#8] })
  ∧ (∀ (bytes : List Byte) (s : State),
      exec (.transactionAbort bytes) s = .next { s with answer := [], portSkips := false })
  ∧ (∀ (c : Instr) (s : State), isHostCommand c = true → wellFormed c = true → s.portSkips = true →
      exec c s = .next { s with answer := [], portSkips := false })
  ∧ (∀ code : Byte, isCommandCode code = true ↔
      code.toNat ∈ [0x10, 0x11, 0x12, 0x13, 0x14, 0x20, 0x21, 0x22, 0x30, 0x31, 0x32, 0x33, 0x40, 0x41, 0x50, 0x51,
        0x52, 0x58, 0x59, 0x5A, 0x5B, 0x60, 0x61, 0x62, 0x63, 0x64, 0x65, 0x7E])
  ∧ (∀ s : State, s.sdo none = none)
  ∧ ∀ s : State, s.portSkips = false →
      (∀ bytes, commandTaken bytes = false → s.sdo (some bytes) = some 0x00#8)
      ∧ ∀ (c : Instr) (bytes more : List Byte), isHostCommand c = true → wellFormed c = true →
          encodeTransaction c = some bytes → s.sdo (some (bytes ++ more)) = some (s.answer.getD more.length 0x00#8)

/-! ## The line: frame starts and heard frames -/

/-- FRAME_START, ENTRY_TO_SKIPPING and RXD_LOW_WHILE_HELD: a start bit in QUIET of a watched line begins a frame and
stops the timer; a byte that makes the frame invalid sends it to SKIPPING; a held line keeps the level of RXD and
the time since it was low (R47, R52, R56, R61, R63, R71, R72). What the time becomes on a watched line is the model's choice:
notes/assumptions/8.md; so is that an event which does not fit the state changes nothing: notes/assumptions/5.md. -/
def Obligations.FrameStartsAndSkips : Prop :=
  ∀ s : State,
    ((s.station = .listening ∨ s.station = .online ∨ s.station = .leaving) → s.line = .quiet →
      exec .frameStart s = .next { s with
        turn := { s.turn with timer := .stopped }, sinceLow := 0,
        line := .receiving { began := (match s.turn.timer with
                               | .turnGap => .gap
                               | .responseWindow => .window
                               | _ => .other),
                             counted := true, remainder := false } })
    ∧ (s.station ≠ .listening → s.station ≠ .online → s.station ≠ .leaving → exec .frameStart s = .next s)
    ∧ (∀ (h : Heard) (cause : SkipCause), s.line = .receiving h → s.request = none → skipCauseHolds cause = true →
      exec (.entryToSkipping cause) s = .next { s with line := .skipping h, sinceLow := 0 })
    ∧ (s.station = .unconfigured ∨ s.station = .offline → ∀ stays : Bool,
      exec (.rxdLowWhileHeld stays) s = .next { s with sinceLow := 0, rxdLow := stays })

/-- FRAME_END with a valid PASS or DATA that opens the turn of its owner in the gap: a PASS ends the turn, a DATA
addressed elsewhere opens a response window; the source becomes PRESENT, and when it was ABSENT the channels toward it
count their absence from 0; the owner's turn counts for patience (R50, R60 to R65, R80, R104, R129). The own turn does not
follow and no patience runs out: OwnTurnChoosesFrame and AbandonedPartialReturns have those cases. The time since RXD was
low is the model's choice: notes/assumptions/8.md. -/
def Obligations.HeardFrameOpensItsTurn : Prop :=
  ∀ (bytes : List Byte) (s : State) (a : Station), onlineHearing s .gap = true → a = s.turn.counter → a ≠ s.ownAddr →
    (decodeFrame bytes = some (.pass a) → a + 1 ≠ s.ownAddr → patienceLasts s a = true →
      ∃ t, exec (.frameEnd bytes) s = .next t
        ∧ t = { s with line := .quiet, turn := turnAfter s.turn, roster := t.roster, tx := t.tx, rx := t.rx,
                       sinceLow := trailingHigh (bytes.getLastD 0) * Config.bitTime s.cfg.rate }
        ∧ (∀ b, t.rosterOf b = rosterAfter s a b) ∧ (∀ n, t.txc n = afterHeard s a (s.txc n))
        ∧ ∀ n, t.rxc n = afterTurnOf a (s.rxc n))
    ∧ ∀ f : DataFrame, decodeFrame bytes = some (.data f) → f.source = a → f.destination ≠ s.ownAddr →
      ∃ t, exec (.frameEnd bytes) s = .next t
        ∧ t = { s with line := .quiet, turn := { s.turn with timer := .responseWindow }, roster := t.roster, tx := t.tx,
                       sinceLow := trailingHigh (bytes.getLastD 0) * Config.bitTime s.cfg.rate }
        ∧ (∀ b, t.rosterOf b = rosterAfter s a b) ∧ ∀ n, t.txc n = afterHeard s a (s.txc n)

/-- FRAME_END while LISTENING: the first valid PASS or DATA is adopted, with quiet count 2 when joining and 0 in resync; a
PASS ends the adopted turn, and in resync the own turn may follow, here with nothing to send; a DATA opens its response
window; a REPLY is invalid there and the listen wait starts again (R49, R50, R62, R67, R71, R73, R80, R90, R104). The time
since RXD was low is the model's choice: notes/assumptions/8.md. -/
def Obligations.ListeningAdoptsPass : Prop :=
  ∀ (bytes : List Byte) (s : State) (h : Heard), s.station = .listening → s.line = .receiving h → s.request = none →
    let quiet := if s.turn.flavour = .joining then 2 else 0
    let since := trailingHigh (bytes.getLastD 0) * Config.bitTime s.cfg.rate
    (∀ b : Station, decodeFrame bytes = some (.pass b) → patienceLasts s b = true →
      (b = s.ownAddr → nothingOutstanding s = true) →
      let ownNext := s.turn.flavour = .resync ∧ b + 1 = s.ownAddr
      (ownNext → ∀ m, cannotSend s m = true ∧ ∀ df, (s.txc m).defn = some df → (s.rosterOf df.station).state ≠ .absent) →
      ∃ t, exec (.frameEnd bytes) s = .next t
        ∧ t = { s with
            station := .online, line := .quiet, roster := t.roster, tx := t.tx, rx := t.rx, sinceLow := since,
            turn := { s.turn with counter := b + 1, quiet := quiet, timer := .turnGap,
                                  ownTurn := decide (b + 1 = s.ownAddr) },
            request := if ownNext then some (.pass s.ownAddr) else none }
        ∧ (∀ c, t.rosterOf c = rosterAfter s b c) ∧ (∀ n, t.txc n = afterHeard s b (s.txc n))
        ∧ ∀ n, t.rxc n = afterTurnOf b (s.rxc n))
    ∧ (∀ f : DataFrame, decodeFrame bytes = some (.data f) → (f.destination ≠ s.ownAddr ∨ s.turn.flavour = .joining) →
      ∃ t, exec (.frameEnd bytes) s = .next t
        ∧ t = { s with
            station := .online, line := .quiet, roster := t.roster, tx := t.tx, sinceLow := since,
            turn := { s.turn with counter := f.source, quiet := quiet, timer := .responseWindow, ownTurn := false } }
        ∧ (∀ c, t.rosterOf c = rosterAfter s f.source c) ∧ ∀ n, t.txc n = afterHeard s f.source (s.txc n))
    ∧ ∀ r : ReplyFrame, decodeFrame bytes = some (.reply r) → h.began = .other → h.counted = true →
      exec (.frameEnd bytes) s = .next { s with
        line := .quiet, turn := { s.turn with timer := .listenWait },
        counters := { s.counters with invalidHeard := min (s.counters.invalidHeard + 1) 65535 }, sinceLow := since }

/-- FRAME_END with a valid PASS or DATA that slips: one of another station than the counter's in the gap, or any in a
response window, whose turn first ends by answer. The counter slips to the source, the own address among the sources, the
slip is counted with its event, and the frame opens that turn: a PASS ends it, a DATA opens its window. The turn superseded
in the gap adds no miss and no patience (R63, R64, R66, R68, R80, R81, R104). The time since RXD was low is the model's
choice: notes/assumptions/8.md. -/
def Obligations.PassOutOfTurnSlips : Prop :=
  ∀ (bytes : List Byte) (s : State) (g : Frame) (b : Station), s.request = none → decodeFrame bytes = some g →
    (g = .pass b ∨ ∃ f, g = .data f ∧ f.source = b ∧ f.destination ≠ s.ownAddr) →
    (g = .pass b → b + 1 ≠ s.ownAddr) → (b = s.ownAddr → nothingOutstanding s = true) →
    let slipped : TurnControl → TurnControl := fun c =>
      { c with counter := if g = .pass b then b + 1 else b, ownTurn := false,
               timer := if g = .pass b then .turnGap else .responseWindow }
    let opened : RxChan → RxChan := fun c => if g = .pass b then afterTurnOf b c else c
    let left : State → TurnControl → Prop := fun t turn =>
      t = { s with
          line := .quiet, roster := t.roster, tx := t.tx, rx := t.rx, events := { s.events with slip := true },
          turn := turn, counters := { s.counters with slips := min (s.counters.slips + 1) 65535 },
          sinceLow := trailingHigh (bytes.getLastD 0) * Config.bitTime s.cfg.rate }
      ∧ (∀ c, t.rosterOf c = rosterAfter s b c) ∧ ∀ n, t.txc n = afterHeard s b (s.txc n)
    (onlineHearing s .gap = true → b ≠ s.turn.counter → (g = .pass b → patienceLasts s b = true) →
      ∃ t, exec (.frameEnd bytes) s = .next t
        ∧ left t { slipped s.turn with quiet := if s.turn.ownTurn then s.turn.quiet - 1 else s.turn.quiet }
        ∧ ∀ n, t.rxc n = opened (s.rxc n))
    ∧ (onlineHearing s .window = true → patienceLasts s s.turn.counter = true →
      (s.turn.counter = s.ownAddr → nothingOutstanding s = true) →
      (g = .pass b → if b = s.turn.counter then nothingFrom s b = true else patienceLasts s b = true) →
      let quiet := if s.turn.ownTurn then s.turn.quiet - 1 else s.turn.quiet
      ∃ t, exec (.frameEnd bytes) s = .next t
        ∧ left t { slipped s.turn with quiet := if s.turn.counter + 1 = s.ownAddr then quiet - 1 else quiet }
        ∧ ∀ n, t.rxc n = opened (afterTurnOf s.turn.counter (s.rxc n)))

/-- FRAME_END with a FIRST segment that is not LAST, addressed to a channel that is IDLE, or ASSEMBLING or DISCARDING from
that source, whose head pool holds a descriptor: an assembly from the source is abandoned first; the segment is stored, the
channel assembles, and TAKEN is requested (R2, R3, R11, R13, R33, R112, R114, R120, R121, R128, R135). The premise on packet
memory is kept by every step (PacketMemoryStaysCanonical). The time since RXD was low is the model's choice:
notes/assumptions/8.md. -/
def Obligations.FirstSegmentStored : Prop :=
  ∀ (bytes : List Byte) (s : State) (f : DataFrame) (df : RxDef) (l : Byte) (parts : List DescId) (d : DescId)
    (rest : List DescId),
    onlineHearing s .gap = true → s.turn.quiet = 0 → s.mem.wf = true → decodeFrame bytes = some (.data f) →
    f.source = s.turn.counter → f.source ≠ s.ownAddr → f.destination = s.ownAddr →
    (s.rosterOf f.source).state ≠ .absent →
    (s.rxc f.channel).defn = some df →
    ((s.rxc f.channel).state = .idle ∨ (s.rxc f.channel).busyFrom f.source = true) →
    partialAt s (fun c => c.state == .assembling) f.channel parts = true →
    s.tallyOf f.channel f.source ≠ some f.tally → f.label = some l → f.last = false → f.payload.length = 64 →
    let assembling := (s.rxc f.channel).state = .assembling
    let back := partialDesc s df parts
    let after := fun q => s.queue q ++ partialTo df parts q
    after df.headPool = d :: rest →
    ∃ t, exec (.frameEnd bytes) s = .next t
      ∧ t = { s with
          line := .quiet, turn := { s.turn with timer := .responseWindow }, roster := t.roster, rx := t.rx,
          tallies := t.tallies, descs := t.descs, queues := t.queues, mem := t.mem,
          events := { s.events with abandon := s.events.abandon || decide assembling },
          request := some (.reply { source := s.ownAddr, destination := f.source, channel := f.channel,
                                    tallyEcho := f.tally, code := .taken }),
          sinceLow := trailingHigh (bytes.getLastD 0) * Config.bitTime s.cfg.rate }
      ∧ (∀ b, t.rosterOf b = if b = f.source then heard else s.rosterOf b)
      ∧ (∀ m, t.rxc m =
          if m = f.channel then
            { s.rxc m with state := .assembling, source := some f.source, label := l, idle := 0, progress := true,
                           part := some { head := d, tail := d, count := 1, length := 64 },
                           abandons := if assembling then min ((s.rxc m).abandons + 1) 255 else (s.rxc m).abandons }
          else s.rxc m)
      ∧ (∀ m a, t.tallyOf m a = if m = f.channel ∧ a = f.source then some f.tally else s.tallyOf m a)
      ∧ (∀ q, t.queue q = if q = df.headPool then rest ++ (back d).next.toList else after q)
      ∧ (∀ e, t.desc e =
          if e = d then { back d with fill := 64, next := none, owner := .building f.channel }
          else if (back d).next = some e then { back e with owner := .queued df.headPool } else back e)
      ∧ ∀ a : Nat, t.mem.read a =
          if 64 * d.val ≤ a ∧ a < 64 * d.val + 64 then f.payload.getD (a - 64 * d.val) 0 else s.mem.read a

/-- FRAME_END with a one-segment message for a channel that is IDLE, or ASSEMBLING or DISCARDING from that source: an
assembly from the source is abandoned first; the segment is stored and delivered in the same step, and TAKEN is requested
(R6, R12, R13, R112, R114, R120, R121, R127, R128). The premise on packet memory is kept by every step
(PacketMemoryStaysCanonical). The time since RXD was low is the model's choice: notes/assumptions/8.md. -/
def Obligations.OneSegmentMessageDelivered : Prop :=
  ∀ (bytes : List Byte) (s : State) (f : DataFrame) (df : RxDef) (l : Byte) (parts : List DescId) (d : DescId)
    (rest : List DescId),
    onlineHearing s .gap = true → s.turn.quiet = 0 → s.mem.wf = true → decodeFrame bytes = some (.data f) →
    f.source = s.turn.counter → f.source ≠ s.ownAddr → f.destination = s.ownAddr →
    (s.rosterOf f.source).state ≠ .absent →
    (s.rxc f.channel).defn = some df →
    ((s.rxc f.channel).state = .idle ∨ (s.rxc f.channel).busyFrom f.source = true) →
    partialAt s (fun c => c.state == .assembling) f.channel parts = true →
    s.tallyOf f.channel f.source ≠ some f.tally → f.label = some l → f.last = true →
    let assembling := (s.rxc f.channel).state = .assembling
    let back := partialDesc s df parts
    let after := fun q => s.queue q ++ partialTo df parts q
    after df.headPool = d :: rest →
    ∃ t, exec (.frameEnd bytes) s = .next t
      ∧ t = { s with
          line := .quiet, turn := { s.turn with timer := .responseWindow }, roster := t.roster, rx := t.rx,
          tallies := t.tallies, descs := t.descs, queues := t.queues, mem := t.mem,
          events := { s.events with abandon := s.events.abandon || decide assembling },
          request := some (.reply { source := s.ownAddr, destination := f.source, channel := f.channel,
                                    tallyEcho := f.tally, code := .taken }),
          sinceLow := trailingHigh (bytes.getLastD 0) * Config.bitTime s.cfg.rate }
      ∧ (∀ b, t.rosterOf b = if b = f.source then heard else s.rosterOf b)
      ∧ (∀ m, t.rxc m =
          if m = f.channel then
            { s.rxc m with state := .idle, source := none, label := l, idle := 0, progress := false, part := none,
                           abandons := if assembling then min ((s.rxc m).abandons + 1) 255 else (s.rxc m).abandons }
          else s.rxc m)
      ∧ (∀ m a, t.tallyOf m a = if m = f.channel ∧ a = f.source then some f.tally else s.tallyOf m a)
      ∧ (∀ q, t.queue q =
          (if q = df.headPool then rest ++ (back d).next.toList else after q)
            ++ (if q = df.delivery then [d] else []))
      ∧ (∀ e, t.desc e =
          if e = d then
            { back d with fill := f.payload.length, next := none, owner := .queued df.delivery, status := .received,
                          peer := f.source, channel := f.channel, label := l, total := f.payload.length,
                          segments := 1 }
          else if (back d).next = some e then { back e with owner := .queued df.headPool } else back e)
      ∧ ∀ a : Nat, t.mem.read a =
          if 64 * d.val ≤ a ∧ a < 64 * d.val + f.payload.length then f.payload.getD (a - 64 * d.val) 0
          else s.mem.read a

/-- FRAME_END with a later segment of an assembly: it is linked after the tail; without LAST the assembly goes on with it as
its tail, with LAST the message is delivered with its total and segment count, members LINKED (R4, R6, R12, R112, R118, R122,
R127). The premise on packet memory is kept by every step (PacketMemoryStaysCanonical). The time since RXD was low is the
model's choice: notes/assumptions/8.md. -/
def Obligations.LastSegmentDeliversAssembly : Prop :=
  ∀ (bytes : List Byte) (s : State) (f : DataFrame) (df : RxDef) (p : Assembly) (bs : List DescId) (d : DescId)
    (rest : List DescId),
    onlineHearing s .gap = true → s.turn.quiet = 0 → s.mem.wf = true → decodeFrame bytes = some (.data f) →
    f.source = s.turn.counter → f.source ≠ s.ownAddr → f.destination = s.ownAddr →
    (s.rosterOf f.source).state ≠ .absent →
    (s.rxc f.channel).defn = some df → (s.rxc f.channel).state = .assembling →
    (s.rxc f.channel).source = some f.source → (s.rxc f.channel).part = some p →
    isChain s (p.head :: bs) = true → (p.head :: bs).length ≤ 15 → (p.head :: bs).getLast? = some p.tail →
    s.tallyOf f.channel f.source ≠ some f.tally → f.label = none →
    s.queue df.bodyPool = d :: rest → d ∉ p.head :: bs →
    (∀ e, (s.desc d).next = some e → e ∉ p.head :: bs) →
    (f.last = true → 1 ≤ f.payload.length →
      ∃ t, exec (.frameEnd bytes) s = .next t
        ∧ t = { s with
            line := .quiet, turn := { s.turn with timer := .responseWindow }, roster := t.roster, rx := t.rx,
            tallies := t.tallies, descs := t.descs, queues := t.queues, mem := t.mem,
            request := some (.reply { source := s.ownAddr, destination := f.source, channel := f.channel,
                                      tallyEcho := f.tally, code := .taken }),
            sinceLow := trailingHigh (bytes.getLastD 0) * Config.bitTime s.cfg.rate }
        ∧ (∀ b, t.rosterOf b = if b = f.source then heard else s.rosterOf b)
        ∧ (∀ m, t.rxc m =
            if m = f.channel then
              { s.rxc m with state := .idle, source := none, idle := 0, progress := false, part := none }
            else s.rxc m)
        ∧ (∀ m a, t.tallyOf m a = if m = f.channel ∧ a = f.source then some f.tally else s.tallyOf m a)
        ∧ (∀ q, t.queue q =
            (if q = df.bodyPool then (match (s.desc d).next with | none => rest | some e => rest ++ [e])
             else s.queue q) ++ (if q = df.delivery then [p.head] else []))
        ∧ (∀ e, t.desc e =
            if e = d then { s.desc d with fill := f.payload.length, next := none, owner := .linked }
            else if e = p.head then
              { s.desc e with next := (if p.tail = e then some d else (s.desc e).next), owner := .queued df.delivery,
                              status := .received, peer := f.source, channel := f.channel,
                              label := (s.rxc f.channel).label, total := p.length + f.payload.length,
                              segments := p.count + 1 }
            else if e ∈ bs then
              { s.desc e with next := (if p.tail = e then some d else (s.desc e).next), owner := .linked }
            else if (s.desc d).next = some e then { s.desc e with owner := .queued df.bodyPool } else s.desc e)
        ∧ ∀ a : Nat, t.mem.read a =
            if 64 * d.val ≤ a ∧ a < 64 * d.val + f.payload.length then f.payload.getD (a - 64 * d.val) 0
            else s.mem.read a)
    ∧ (f.last = false → f.payload.length = 64 → p.count ≠ 15 →
      ∃ t, exec (.frameEnd bytes) s = .next t
        ∧ t = { s with
            line := .quiet, turn := { s.turn with timer := .responseWindow }, roster := t.roster, rx := t.rx,
            tallies := t.tallies, descs := t.descs, queues := t.queues, mem := t.mem,
            request := some (.reply { source := s.ownAddr, destination := f.source, channel := f.channel,
                                      tallyEcho := f.tally, code := .taken }),
            sinceLow := trailingHigh (bytes.getLastD 0) * Config.bitTime s.cfg.rate }
        ∧ (∀ b, t.rosterOf b = if b = f.source then heard else s.rosterOf b)
        ∧ (∀ m, t.rxc m =
            if m = f.channel then
              { s.rxc m with idle := 0, progress := true,
                             part := some { head := p.head, tail := d, count := p.count + 1, length := p.length + 64 } }
            else s.rxc m)
        ∧ (∀ m a, t.tallyOf m a = if m = f.channel ∧ a = f.source then some f.tally else s.tallyOf m a)
        ∧ (∀ q, t.queue q = if q = df.bodyPool then rest ++ (s.desc d).next.toList else s.queue q)
        ∧ (∀ e, t.desc e =
            if e = d then { s.desc d with fill := 64, next := none, owner := .building f.channel }
            else if e = p.tail then { s.desc e with next := some d }
            else if (s.desc d).next = some e then { s.desc e with owner := .queued df.bodyPool } else s.desc e)
        ∧ ∀ a : Nat, t.mem.read a =
            if 64 * d.val ≤ a ∧ a < 64 * d.val + 64 then f.payload.getD (a - 64 * d.val) 0 else s.mem.read a)

/-- FRAME_END with a DATA frame whose channel is closed is answered CLOSED, and one whose tally the channel has accepted
is answered SEEN; neither stores anything: no pool, no descriptor, no byte of packet memory and no tally changes (R114
to R117). The time since RXD was low is the model's choice: notes/assumptions/8.md. -/
def Obligations.ClosedAndSeenStoreNothing : Prop :=
  ∀ (bytes : List Byte) (s : State) (f : DataFrame), onlineHearing s .gap = true → s.turn.quiet = 0 →
    decodeFrame bytes = some (.data f) → f.source = s.turn.counter → f.source ≠ s.ownAddr →
    f.destination = s.ownAddr → (s.rosterOf f.source).state ≠ .absent →
    let c := s.rxc f.channel
    let answered : ReplyCode → State → Prop := fun code t =>
      t = { s with
          line := .quiet, turn := { s.turn with timer := .responseWindow }, roster := t.roster, rx := t.rx,
          request := some (.reply { source := s.ownAddr, destination := f.source, channel := f.channel,
                                    tallyEcho := f.tally, code := code }),
          sinceLow := trailingHigh (bytes.getLastD 0) * Config.bitTime s.cfg.rate }
      ∧ ∀ b, t.rosterOf b = if b = f.source then heard else s.rosterOf b
    (c.defn = none ∨ c.state = .disabled ∨ c.state = .halted →
      ∃ t, exec (.frameEnd bytes) s = .next t ∧ answered .closed t ∧ ∀ m, t.rxc m = s.rxc m)
    ∧ (c.defn ≠ none → c.state ≠ .disabled → c.state ≠ .halted → s.tallyOf f.channel f.source = some f.tally →
      ∃ t, exec (.frameEnd bytes) s = .next t ∧ answered .seen t
        ∧ ∀ m, t.rxc m =
            if m = f.channel ∧ (c.state = .assembling ∨ c.state = .discarding) ∧ c.source = some f.source then
              { s.rxc m with idle := 0, progress := true }
            else s.rxc m)

/-- FRAME_END with a DATA frame for the station takes the reply decision of the frame's channel, on the state that the turn
and roster step left, and requests its REPLY. On an open channel and a new tally, where nothing is stored, the decision is, in
the order of R115: shape violations and strays LOST, the first ending an assembly or discard from that source; another
source's message LATER; an empty head or body pool LATER under REFUSE and TAKEN under DROP, where a partial goes back
uncounted; a discarded segment TAKEN (R13, R114, R115, R118, R119, R123 to R126, R128). A FIRST that restarts an assembly
finds its head descriptor in the pool: FirstSegmentStored. That progress is set on a channel that LAST leaves IDLE:
notes/assumptions/9.md; the time since RXD was low: notes/assumptions/8.md. -/
def Obligations.ReplyDecisionWithoutStoring : Prop :=
  (∀ (bytes : List Byte) (s : State) (f : DataFrame), onlineHearing s .gap = true → s.turn.quiet = 0 →
    decodeFrame bytes = some (.data f) → f.source = s.turn.counter → f.source ≠ s.ownAddr →
    f.destination = s.ownAddr → (s.rosterOf f.source).state ≠ .absent →
    let u := { s.setRoster f.source heard with
      line := .quiet, turn := { s.turn with timer := .responseWindow },
      sinceLow := trailingHigh (bytes.getLastD 0) * Config.bitTime s.cfg.rate }
    exec (.frameEnd bytes) s = .next { (u.replyDecision f.channel f).2 with
      request := some (.reply { source := s.ownAddr, destination := f.source, channel := f.channel,
                                tallyEcho := f.tally, code := (u.replyDecision f.channel f).1 }) })
  ∧ ∀ (s : State) (f : DataFrame) (df : RxDef),
    let n := f.channel
    let c := s.rxc n
    let fromHere := c.busyFrom f.source = true
    let later := f.label = none ∧ c.state = .assembling ∧ c.source = some f.source
    let badShape := (f.last = false ∧ f.payload.length ≠ 64)
      ∨ (f.last = true ∧ f.label = none ∧ f.payload.length = 0)
      ∨ (later ∧ f.last = false ∧ ∃ p, c.part = some p ∧ p.count = 15)
    let recorded : State → Prop := fun t =>
      ∀ m a, t.tallyOf m a = if m = n ∧ a = f.source then some f.tally else s.tallyOf m a
    let discarding : RxChan :=
      { c with state := (if f.last then .idle else .discarding), source := (if f.last then none else some f.source),
               part := none, idle := 0, progress := true }
    c.defn = some df → c.state ≠ .disabled → c.state ≠ .halted → s.tallyOf n f.source ≠ some f.tally →
    (badShape → ¬ fromHere → s.replyDecision n f = (.lost, s))
    ∧ (∀ parts, badShape → fromHere → partialAt s (fun _ => true) n parts = true →
        ∃ t, s.replyDecision n f = (.lost, t)
          ∧ t = { s with rx := t.rx, descs := t.descs, queues := t.queues,
                         events := { s.events with abandon := true } }
          ∧ (∀ m, t.rxc m = if m = n then afterAbandon c else s.rxc m)
          ∧ (∀ q, t.queue q = s.queue q ++ partialTo df parts q) ∧ ∀ e, t.desc e = partialDesc s df parts e)
    ∧ (¬ badShape → f.label ≠ none → c.busy = true → ¬ fromHere → s.replyDecision n f = (.later, s))
    ∧ (¬ badShape → f.label = none → ¬ fromHere → s.replyDecision n f = (.lost, s))
    ∧ (¬ badShape → (f.label ≠ none ∧ (c.state = .idle ∨ c.state = .discarding ∧ fromHere) ∧ s.queue df.headPool = []
          ∨ later ∧ c.part ≠ none ∧ s.queue df.bodyPool = []) →
        (df.policy = .refuse → s.replyDecision n f = (.later, s))
        ∧ ∀ parts, df.policy = .drop → partialAt s (fun _ => true) n parts = true →
          ∃ t, s.replyDecision n f = (.taken, t)
            ∧ t = { s with rx := t.rx, tallies := t.tallies, descs := t.descs, queues := t.queues,
                           events := { s.events with drop := true } }
            ∧ (∀ m, t.rxc m = if m = n then { discarding with drops := min (c.drops + 1) 255 } else s.rxc m)
            ∧ recorded t ∧ (∀ q, t.queue q = s.queue q ++ partialTo df parts q)
            ∧ ∀ e, t.desc e = partialDesc s df parts e)
    ∧ (¬ badShape → f.label = none → c.state = .discarding → fromHere → c.part = none →
        ∃ t, s.replyDecision n f = (.taken, t) ∧ t = { s with rx := t.rx, tallies := t.tallies }
          ∧ (∀ m, t.rxc m = if m = n then discarding else s.rxc m) ∧ recorded t)

/-- FRAME_END with the matching REPLY to the outstanding segment, the message staying in hand: TAKEN and SEEN advance the
tally and the current segment, LATER counts and keeps both (R63, R65, R93 to R95). On a TEARING channel the teardown then
completes: with nothing waiting on the submit queue the message is cancelled, a marker of total 1 is pushed and the channel
is DISABLED (R109, R144, R145, R147, R148, R153). The time since RXD was low is the model's choice:
notes/assumptions/8.md. -/
def Obligations.ReplyMovesMessageOn : Prop :=
  ∀ (bytes : List Byte) (s : State) (n : ChanId) (df : TxDef) (code : ReplyCode) (c : TxChan),
    onlineHearing s .window = true → s.turn.counter = s.ownAddr → onlyOutstanding s n = true → c = s.txc n →
    c.defn = some df → df.station ≠ s.ownAddr → (s.rosterOf df.station).state ≠ .absent →
    nothingFrom s s.ownAddr = true →
    decodeFrame bytes = some (.reply { source := df.station, destination := s.ownAddr, channel := df.channel,
                                       tallyEcho := c.tally, code := code }) →
    ∀ c' : TxChan,
      ((code = .taken ∨ code = .seen) ∧ (∃ d e, c.cur = some d ∧ (s.desc d).next = some e ∧
          c' = { c with tally := c.tally + 1, cur := some e, attempts := 0, laters := 0, doubt := false,
                        outstanding := false })
        ∨ code = .later ∧ c.laters + 1 < 64 ∧
          c' = { c with laters := c.laters + 1, attempts := 0, outstanding := false }) →
      (c.state = .active →
        ∃ t, exec (.frameEnd bytes) s = .next t
          ∧ t = { s with line := .quiet, turn := turnAfter s.turn, roster := t.roster, tx := t.tx,
                         sinceLow := trailingHigh (bytes.getLastD 0) * Config.bitTime s.cfg.rate }
          ∧ (∀ b, t.rosterOf b = if b = df.station then heard else s.rosterOf b)
          ∧ ∀ m, t.txc m = if m = n then c' else s.txc m)
      ∧ ∀ (h : DescId) (ms : List DescId) (mk : DescId) (rest : List DescId), c.state = .tearing → c.msg = some h →
        isChain s (h :: ms) = true → s.queue df.submit = [] → (s.desc h).returnQueue ≠ df.submit →
        s.queue s.cfg.markerPool = mk :: rest → (s.desc mk).next = none → mk ∉ h :: ms →
        ∃ t, exec (.frameEnd bytes) s = .next t
          ∧ t = { s with line := .quiet, turn := turnAfter s.turn, roster := t.roster, tx := t.tx, descs := t.descs,
                         queues := t.queues,
                         sinceLow := trailingHigh (bytes.getLastD 0) * Config.bitTime s.cfg.rate }
          ∧ (∀ b, t.rosterOf b = if b = df.station then heard else s.rosterOf b)
          ∧ (∀ m, t.txc m =
              if m = n then tornDown c (if c'.doubt then c'.tally + 1 else c'.tally) else s.txc m)
          ∧ (∀ q, t.queue q = (if q = s.cfg.markerPool then rest else s.queue q)
              ++ (if q = (s.desc h).returnQueue then [h] else []) ++ (if q = df.notice then [mk] else []))
          ∧ ∀ e, t.desc e =
              if e = mk then markerDesc (s.desc mk) df.station n 1 df.notice
              else messageDesc s df.station n .cancelled (h :: ms) e

/-- FRAME_END with the matching REPLY that ends the message: TAKEN or SEEN on the last segment deliver it, CLOSED halts
the channel, LOST fails it; the whole chain goes to its return queue (R6, R10, R94, R96, R97, R99, R100). A TEARING channel
ends its message the same way and is then not IDLE or HALTED but DISABLED, with a marker of total 0 where nothing waits on
its submit queue (R109, R147, R148, R153). The time since RXD was low is the model's choice: notes/assumptions/8.md. -/
def Obligations.ReplyEndsMessage : Prop :=
  ∀ (bytes : List Byte) (s : State) (n : ChanId) (df : TxDef) (code : ReplyCode) (c : TxChan) (h : DescId)
    (ms : List DescId) (d : DescId),
    onlineHearing s .window = true → s.turn.counter = s.ownAddr → onlyOutstanding s n = true → c = s.txc n →
    c.defn = some df → c.msg = some h → c.cur = some d → isChain s (h :: ms) = true →
    df.station ≠ s.ownAddr → (s.rosterOf df.station).state ≠ .absent → nothingFrom s s.ownAddr = true →
    decodeFrame bytes = some (.reply { source := df.station, destination := s.ownAddr, channel := df.channel,
                                       tallyEcho := c.tally, code := code }) →
    ∀ (st : DescStatus) (tally : Tally) (final : TxState) (absence : Nat),
      ((code = .taken ∨ code = .seen) ∧ (s.desc d).next = none ∧ st = .delivered ∧ tally = c.tally + 1
          ∧ final = .idle ∧ absence = c.absence
        ∨ code = .closed ∧ st = .closed ∧ tally = (if c.doubt then c.tally + 1 else c.tally) ∧ final = .halted
          ∧ absence = 0
        ∨ code = .lost ∧ st = .lost ∧ tally = (if c.doubt then c.tally + 1 else c.tally) ∧ final = .idle
          ∧ absence = c.absence) →
      (c.state = .active →
        ∃ t, exec (.frameEnd bytes) s = .next t
          ∧ t = { s with line := .quiet, turn := turnAfter s.turn, roster := t.roster, tx := t.tx, descs := t.descs,
                         queues := t.queues,
                         sinceLow := trailingHigh (bytes.getLastD 0) * Config.bitTime s.cfg.rate }
          ∧ (∀ b, t.rosterOf b = if b = df.station then heard else s.rosterOf b)
          ∧ (∀ m, t.txc m =
              if m = n then
                { defn := some df, state := final, msg := none, cur := none, tally := tally, attempts := 0, laters := 0,
                  absence := absence, doubt := false, outstanding := false }
              else s.txc m)
          ∧ (∀ q, t.queue q = s.queue q ++ (if q = (s.desc h).returnQueue then [h] else []))
          ∧ ∀ e, t.desc e = messageDesc s df.station n st (h :: ms) e)
      ∧ ∀ (mk : DescId) (rest : List DescId), c.state = .tearing → s.queue df.submit = [] →
        (s.desc h).returnQueue ≠ df.submit → s.queue s.cfg.markerPool = mk :: rest → (s.desc mk).next = none →
        mk ∉ h :: ms →
        ∃ t, exec (.frameEnd bytes) s = .next t
          ∧ t = { s with line := .quiet, turn := turnAfter s.turn, roster := t.roster, tx := t.tx, descs := t.descs,
                         queues := t.queues,
                         sinceLow := trailingHigh (bytes.getLastD 0) * Config.bitTime s.cfg.rate }
          ∧ (∀ b, t.rosterOf b = if b = df.station then heard else s.rosterOf b)
          ∧ (∀ m, t.txc m = if m = n then tornDown c tally else s.txc m)
          ∧ (∀ q, t.queue q = (if q = s.cfg.markerPool then rest else s.queue q)
              ++ (if q = (s.desc h).returnQueue then [h] else []) ++ (if q = df.notice then [mk] else []))
          ∧ ∀ e, t.desc e =
              if e = mk then markerDesc (s.desc mk) df.station n 0 df.notice
              else messageDesc s df.station n st (h :: ms) e

/-- IDLE_FRAME_END: the frame is invalid, counted unless it began in SKIPPING; it opens a turn in the gap, ends the turn
of its window, the own turn with a segment outstanding among them, which leaves that segment unanswered, and restarts the
listen wait while LISTENING (R48, R50, R54, R62 to R64, R71, R80, R93, R98). That RXD was low 20 bit times and half a
microsecond before is the model's choice: notes/assumptions/8.md. -/
def Obligations.IdleEndsFrameAsInvalid : Prop :=
  ∀ (s : State) (h : Heard), (s.line = .receiving h ∨ s.line = .skipping h) → s.request = none →
    let counters := if h.counted then { s.counters with invalidHeard := min (s.counters.invalidHeard + 1) 65535 }
      else s.counters
    let since := 20 * Config.bitTime s.cfg.rate + 1
    (s.station = .online → h.began = .gap →
      exec .idleFrameEnd s = .next { s with
        line := .quiet, turn := { s.turn with timer := .responseWindow }, counters := counters, sinceLow := since })
    ∧ (s.station = .online → h.began = .window → s.turn.counter ≠ s.ownAddr → s.turn.counter + 1 ≠ s.ownAddr →
        patienceLasts s s.turn.counter = true →
        ∃ t, exec .idleFrameEnd s = .next t
          ∧ t = { s with line := .quiet, turn := turnAfter s.turn, rx := t.rx, counters := counters,
                         sinceLow := since }
          ∧ ∀ n, t.rxc n = afterTurnOf s.turn.counter (s.rxc n))
    ∧ (∀ n, s.station = .online → h.began = .window → s.turn.counter = s.ownAddr → onlyOutstanding s n = true →
        (s.txc n).state = .active → (s.txc n).attempts < 8 → nothingFrom s s.ownAddr = true →
        ∃ t, exec .idleFrameEnd s = .next t
          ∧ t = { s with line := .quiet, turn := turnAfter s.turn, tx := t.tx, sinceLow := since,
                         counters := { counters with unanswered := min (s.counters.unanswered + 1) 65535 } }
          ∧ ∀ m, t.txc m = if m = n then { s.txc n with doubt := true, outstanding := false } else s.txc m)
    ∧ (s.station = .listening →
      exec .idleFrameEnd s = .next { s with
        line := .quiet, turn := { s.turn with timer := .listenWait }, counters := counters, sinceLow := since })

/-! ## Own frames, collisions and expiries -/

/-- OWN_FRAME_START and OWN_FRAME_END: the requested frame goes on the line and stops the timer; its end is counted by
kind, clears the consecutive collisions, and a PASS ends the own turn, a DATA opens its response window, a REPLY ends
the other station's turn by answer (R51, R52, R69, R75, R163). The time since RXD was low is the model's choice:
notes/assumptions/8.md. -/
def Obligations.OwnFramesSentAndTreated : Prop :=
  (∀ (s : State) (f : Frame), s.request = some f →
    exec .ownFrameStart s = .next { s with
      line := .sending f, request := none, turn := { s.turn with timer := .stopped }, sinceLow := 0 })
  ∧ ∀ (s : State) (f : Frame), s.station = .online → s.line = .sending f →
    let since := trailingHigh ((encodeFrame f).getLastD 0) * Config.bitTime s.cfg.rate
    (∀ a, f = .pass a → s.turn.counter = s.ownAddr → nothingOutstanding s = true → nothingFrom s s.ownAddr = true →
      exec .ownFrameEnd s = .next { s with
        line := .quiet, turn := { turnAfter s.turn with collided := 0 }, sinceLow := since,
        counters := { s.counters with passSent := min (s.counters.passSent + 1) 65535 } })
    ∧ (∀ g, f = .data g →
      exec .ownFrameEnd s = .next { s with
        line := .quiet, turn := { s.turn with collided := 0, timer := .responseWindow }, sinceLow := since,
        counters := { s.counters with dataSent := min (s.counters.dataSent + 1) 65535 } })
    ∧ ∀ r, f = .reply r → s.turn.counter ≠ s.ownAddr → s.turn.counter + 1 ≠ s.ownAddr →
        patienceLasts s s.turn.counter = true →
        ∃ t, exec .ownFrameEnd s = .next t
          ∧ t = { s with
              line := .quiet, turn := { turnAfter s.turn with collided := 0 }, sinceLow := since, rx := t.rx,
              counters := { s.counters with replySent := min (s.counters.replySent + 1) 65535 } }
          ∧ ∀ n, t.rxc n = afterTurnOf s.turn.counter (s.rxc n)

/-- COLLISION on a PASS or REPLY: below the eighth in a row the station enters resync with the line in SKIPPING; at the
eighth, which is FAULT too, it goes OFFLINE with the FAULT event, and every assembly and discard ends. Either way it leaves
ONLINE: a message in doubt fails with NO_ANSWER, the others are rewound (R53, R54, R57, R74, R75, R78, R99, R105, R131). The
model's choices: FAULT as a command of its own (notes/assumptions/6.md), the returned messages before the returned partials
(notes/assumptions/10.md), the line low at the collision (notes/assumptions/8.md). -/
def Obligations.CollisionResyncsOrFaults : Prop :=
  ∀ (s : State) (f : Frame), s.station = .online → s.line = .sending f → (∀ g, f ≠ .data g) →
    let counters := { s.counters with collisions := min (s.counters.collisions + 1) 65535 }
    (∀ msgs, s.turn.collided + 1 < 8 → ending s TxChan.doubt (fun _ => false) msgs (fun _ => []) = true →
      ∃ t, exec .collision s = .next t
        ∧ t = { s with
            station := .listening, line := .skipping { began := .other, counted := false, remainder := true },
            turn := { turnOff s.turn with flavour := .resync, collided := s.turn.collided + 1 },
            counters := counters, tx := t.tx, descs := t.descs, queues := t.queues, sinceLow := 0 }
        ∧ (∀ n, t.txc n = afterExit (s.txc n))
        ∧ (∀ q, t.queue q = s.queue q ++ endedTo s msgs (fun _ => []) q)
        ∧ ∀ e, t.desc e = endedDesc s msgs (fun _ => []) e)
    ∧ ∀ msgs parts, s.turn.collided + 1 = 8 → ending s TxChan.doubt RxChan.busy msgs parts = true →
      ∀ c ∈ [Instr.collision, Instr.fault],
      ∃ t, exec c s = .next t
        ∧ t = { s with
            station := .offline, line := .quiet, request := none, turn := { turnOff s.turn with collided := 8 },
            counters := counters, tx := t.tx, rx := t.rx, descs := t.descs, queues := t.queues, sinceLow := 0,
            events := { s.events with fault := true, abandon := s.events.abandon || !noneBusy s } }
        ∧ (∀ n, t.txc n = afterExit (s.txc n)) ∧ (∀ n, t.rxc n = afterOffline (s.rxc n))
        ∧ (∀ q, t.queue q = s.queue q ++ endedTo s msgs parts q) ∧ ∀ e, t.desc e = endedDesc s msgs parts e

/-- COLLISION on the DATA frame of the outstanding segment, in ONLINE and in LEAVING: the sending counts as unanswered and
sets doubt, so at the exit from ONLINE that it makes the message fails with NO_ANSWER and the tally advances; the station
enters resync, from LEAVING it goes OFFLINE, and at the eighth collision in a row, which is FAULT too, OFFLINE with the FAULT
event. A TEARING channel first completes its teardown, with nothing waiting on its submit queue (R53, R54, R57, R74, R75,
R77, R78, R92, R98 to R100, R105, R109, R131, R145 to R148). The model's choices: FAULT as a command of its own
(notes/assumptions/6.md), the returned messages before the returned partials (notes/assumptions/10.md), the line low at the
collision (notes/assumptions/8.md). -/
def Obligations.CollisionFailsDoubtfulMessage : Prop :=
  ∀ (s : State) (f : DataFrame) (n : ChanId) (df : TxDef) (h : DescId) (ms : List DescId) (c : Instr),
    (s.station = .online ∨ s.station = .leaving) → s.line = .sending (.data f) → s.turn.collided + 1 ≤ 8 →
    onlyOutstanding s n = true → (s.txc n).defn = some df → (s.txc n).msg = some h → isChain s (h :: ms) = true →
    (c = .collision ∨ c = .fault ∧ s.turn.collided + 1 = 8) →
    let off : Bool := s.station == .leaving || s.turn.collided + 1 == 8
    let counted := { s with
      counters := { s.counters with collisions := min (s.counters.collisions + 1) 65535,
                                    unanswered := min (s.counters.unanswered + 1) 65535 },
      sinceLow := 0 }
    let left : State :=
      if off = true then
        { counted with
          station := .offline, line := .quiet, request := none,
          turn := { turnOff s.turn with collided := s.turn.collided + 1 },
          events := { s.events with fault := s.events.fault || s.turn.collided + 1 == 8,
                                    abandon := s.events.abandon || !noneBusy s } }
      else
        { counted with
          station := .listening, line := .skipping { began := .other, counted := false, remainder := true },
          turn := { turnOff s.turn with flavour := .resync, collided := s.turn.collided + 1 } }
    let exits : State → (ChanId → List DescId) → (ChanId → List DescId) → State → Prop := fun u msgs parts t =>
      t = { left with tx := t.tx, rx := t.rx, descs := t.descs, queues := t.queues }
      ∧ (∀ m, t.txc m = afterExit (u.txc m))
      ∧ (∀ m, t.rxc m = if off = true then afterOffline (s.rxc m) else s.rxc m)
      ∧ (∀ q, t.queue q = u.queue q ++ endedTo u msgs parts q) ∧ ∀ e, t.desc e = endedDesc u msgs parts e
    (∀ msgs parts, (s.txc n).state = .active →
      ((s.txc n).attempts < 8 ∨ ∀ m, m ≠ n → (s.txc m).doubt = false) →
      let u := s.setTx n { s.txc n with doubt := true }
      ending u TxChan.doubt (fun r => off && r.busy) msgs parts = true →
      ∃ t, exec c s = .next t ∧ exits u msgs parts t)
    ∧ ∀ (mk : DescId) (st : DescStatus) (total : Nat), (s.txc n).state = .tearing →
      ((s.txc n).attempts < 8 ∧ st = .cancelled ∧ total = 1 ∨ 8 ≤ (s.txc n).attempts ∧ st = .noAnswer ∧ total = 0) →
      s.queue df.submit = [] → (s.desc h).returnQueue ≠ df.submit → (s.queue s.cfg.markerPool).head? = some mk →
      (s.desc mk).next = none → mk ∉ h :: ms →
      ∃ u, TornDownUnanswered n df st total (h :: ms) mk s u
        ∧ ∀ msgs parts, ending u TxChan.doubt (fun r => off && r.busy) msgs parts = true →
          ∃ t, exec c s = .next t ∧ exits u msgs parts t

/-- RESPONSE_WINDOW_EXPIRY ends the turn: another station's turn counts for patience and adds no miss, and the channels whose
patience it takes give their partials back and count an abandonment in the same step; the own turn with a segment
outstanding leaves it unanswered and in doubt (R60, R63, R65, R81, R93, R98, R128, R129, R135). On a TEARING channel the
teardown then completes: with nothing waiting on the submit queue the message is cancelled, the tally advances, a marker of
total 1 is pushed and the channel is DISABLED (R99, R100, R109, R144, R145, R147, R148, R153). The model's choice: the order
of several channels that lose their patience (notes/assumptions/20.md). -/
def Obligations.WindowExpiryEndsTurn : Prop :=
  ∀ s : State, onlineSilent s .responseWindow = true →
    (∀ parts, s.turn.counter ≠ s.ownAddr → s.turn.counter + 1 ≠ s.ownAddr →
      ending s (fun _ => false) (patienceOut s.turn.counter) (fun _ => []) parts = true →
      ∃ t, exec .responseWindowExpiry s = .next t
        ∧ TurnCounted s.turn.counter parts { s with turn := turnAfter s.turn } t)
    ∧ (∀ n, s.turn.counter = s.ownAddr → onlyOutstanding s n = true → (s.txc n).state = .active →
        (s.txc n).attempts < 8 → nothingFrom s s.ownAddr = true →
        ∃ t, exec .responseWindowExpiry s = .next t
          ∧ t = { s with turn := turnAfter s.turn, tx := t.tx,
                         counters := { s.counters with unanswered := min (s.counters.unanswered + 1) 65535 } }
          ∧ ∀ m, t.txc m = if m = n then { s.txc n with doubt := true, outstanding := false } else s.txc m)
    ∧ ∀ (n : ChanId) (df : TxDef) (h : DescId) (ms : List DescId) (mk : DescId) (rest : List DescId),
        s.turn.counter = s.ownAddr → onlyOutstanding s n = true → (s.txc n).defn = some df →
        (s.txc n).state = .tearing → (s.txc n).attempts < 8 → nothingFrom s s.ownAddr = true →
        (s.txc n).msg = some h → isChain s (h :: ms) = true → s.queue df.submit = [] →
        (s.desc h).returnQueue ≠ df.submit → s.queue s.cfg.markerPool = mk :: rest → (s.desc mk).next = none →
        mk ∉ h :: ms →
        ∃ t, exec .responseWindowExpiry s = .next t
          ∧ t = { s with turn := turnAfter s.turn, tx := t.tx, descs := t.descs, queues := t.queues,
                         counters := { s.counters with unanswered := min (s.counters.unanswered + 1) 65535 } }
          ∧ (∀ m, t.txc m = if m = n then tornDown (s.txc n) ((s.txc n).tally + 1) else s.txc m)
          ∧ (∀ q, t.queue q = (if q = s.cfg.markerPool then rest else s.queue q)
              ++ (if q = (s.desc h).returnQueue then [h] else []) ++ (if q = df.notice then [mk] else []))
          ∧ ∀ e, t.desc e =
              if e = mk then markerDesc (s.desc mk) df.station n 1 df.notice
              else messageDesc s df.station n .cancelled (h :: ms) e

/-- TURN_GAP_EXPIRY ends the turn silent: its turn counts for patience, and the channels whose patience it takes give their
partials back; the owner gets a miss unless it is ABSENT already; the second miss makes it ABSENT, so its tallies are
forgotten, the messages for it fail or are rewound and its other assemblies end; a quiet own turn lowers the quiet count
(R60, R61, R65, R68, R81, R102, R113, R128 to R130). The model's choices: the order of several channels that lose their
patience (notes/assumptions/20.md), the returned messages before the partials that the absence returns
(notes/assumptions/10.md). -/
def Obligations.GapExpiryEndsTurnSilent : Prop :=
  ∀ s : State, onlineSilent s .turnGap = true →
    (s.turn.counter ≠ s.ownAddr → s.turn.counter + 1 ≠ s.ownAddr →
      let a := s.turn.counter
      (∀ parts, (s.rosterOf a).state = .absent ∨ (s.rosterOf a).misses = 0 →
        ending s (fun _ => false) (patienceOut a) (fun _ => []) parts = true →
        ∃ t, exec .turnGapExpiry s = .next t
          ∧ TurnCounted a parts { s with turn := turnAfter s.turn, roster := t.roster } t
          ∧ ∀ b, t.rosterOf b =
              if b = a ∧ (s.rosterOf b).state ≠ .absent then { s.rosterOf b with misses := 1 } else s.rosterOf b)
      ∧ ∀ gone msgs parts, (s.rosterOf a).state ≠ .absent → (s.rosterOf a).misses = 1 →
        missedTwiceEnds s a gone msgs parts = true →
        ∃ t, exec .turnGapExpiry s = .next t
          ∧ MissedTwice a gone msgs parts { s with turn := turnAfter s.turn } t)
    ∧ (s.turn.counter = s.ownAddr → s.turn.ownTurn = true → 1 ≤ s.turn.quiet → nothingOutstanding s = true →
      nothingFrom s s.ownAddr = true →
      exec .turnGapExpiry s = .next { s with
        turn := { s.turn with counter := s.ownAddr + 1, quiet := s.turn.quiet - 1, ownTurn := false } })

/-- The own turn that a turn end reaches, by RESPONSE_WINDOW_EXPIRY, TURN_GAP_EXPIRY, IDLE_FRAME_END, FRAME_END (a PASS,
adopted, in turn or slipping, and any frame but a PASS or DATA in a window) or OWN_FRAME_END: its patience expiries and roster
changes come first, and with quiet count 0 the own turn start follows (R50, R60 to R69, R73, R80, R81, R87, R129). The start
raises the absence count of each channel with work toward an ABSENT destination; a count that reaches 4 returns the message in
hand or the oldest waiting one ABSENT. The scan passes every entry that is EMPTY or not eligible: a PASS when it finds none;
else the current segment of an ACTIVE channel, or the first of a message taken, and the cursor goes on. A chain that fails the
shape check is returned MALFORMED (R9, R16, R31, R85 to R92, R99, R103). One count reaches 4 and one chain fails; no return
queue is then a submit queue of another channel. The model's choices: an own turn start before the roster takes its REPLY
(notes/assumptions/11.md), the orders of log 10 and log 20, the time since RXD was low (notes/assumptions/8.md). -/
def Obligations.OwnTurnChoosesFrame : Prop :=
  let mine : TurnControl → TurnControl := fun c => { turnAfter c with ownTurn := true }
  let starts : State → State := fun u => if u.turn.quiet = 0 then u.ownTurnStarts else u
  let since : State → List Byte → Nat := fun s bytes => trailingHigh (bytes.getLastD 0) * Config.bitTime s.cfg.rate
  let invalid : State → Bool → Counters := fun s counted =>
    if counted then { s.counters with invalidHeard := min (s.counters.invalidHeard + 1) 65535 } else s.counters
  let slipped : State → Counters := fun s => { s.counters with slips := min (s.counters.slips + 1) 65535 }
  let patience : State → Station → (ChanId → List DescId) → Prop := fun s a parts =>
    ending s (fun _ => false) (patienceOut a) (fun _ => []) parts = true
  (∀ (s : State) (a : Station) (parts : ChanId → List DescId), s.station = .online → s.request = none →
    a = s.turn.counter → a + 1 = s.ownAddr → patience s a parts →
    (s.line = .quiet → s.turn.timer = .responseWindow →
      ∃ u, TurnCounted a parts { s with turn := mine s.turn } u ∧ exec .responseWindowExpiry s = .next (starts u))
    ∧ (s.line = .quiet → s.turn.timer = .turnGap → (s.rosterOf a).state = .absent ∨ (s.rosterOf a).misses = 0 →
      let v := if (s.rosterOf a).state = .absent then s else s.setRoster a { s.rosterOf a with misses := 1 }
      ∃ u, TurnCounted a parts { v with turn := mine s.turn } u ∧ exec .turnGapExpiry s = .next (starts u))
    ∧ (∀ msgs rest, s.line = .quiet → s.turn.timer = .turnGap → (s.rosterOf a).state ≠ .absent →
      (s.rosterOf a).misses = 1 → missedTwiceEnds s a parts msgs rest = true →
      ∃ u, MissedTwice a parts msgs rest { s with turn := mine s.turn } u
        ∧ exec .turnGapExpiry s = .next (starts u))
    ∧ (∀ h : Heard, (s.line = .receiving h ∨ s.line = .skipping h) → h.began = .window →
      ∃ u, TurnCounted a parts { s with line := .quiet, turn := mine s.turn, counters := invalid s h.counted,
                                        sinceLow := 20 * Config.bitTime s.cfg.rate + 1 } u
        ∧ exec .idleFrameEnd s = .next (starts u))
    ∧ (∀ bytes, s.line = .receiving { began := .window, counted := true, remainder := false } →
      frameComplete bytes = true → decodeFrame bytes = none →
      ∃ u, TurnCounted a parts { s with line := .quiet, turn := mine s.turn, counters := invalid s true,
                                        sinceLow := since s bytes } u
        ∧ exec (.frameEnd bytes) s = .next (starts u))
    ∧ (∀ (bytes : List Byte) (r : ReplyFrame), s.line = .receiving { began := .window, counted := true, remainder := false } →
      decodeFrame bytes = some (.reply r) →
      ∃ u, TurnCounted a parts { s with line := .quiet, turn := mine s.turn, sinceLow := since s bytes } u
        ∧ ∃ v, SourceHeard r.source (starts u) v ∧ exec (.frameEnd bytes) s = .next v)
    ∧ ∀ r : ReplyFrame, s.line = .sending (.reply r) →
      ∃ u, TurnCounted a parts { s with
          line := .quiet, turn := { mine s.turn with collided := 0 },
          counters := { s.counters with replySent := min (s.counters.replySent + 1) 65535 },
          sinceLow := since s (encodeFrame (.reply r)) } u
        ∧ exec .ownFrameEnd s = .next (starts u))
  ∧ (∀ (s : State) (bytes : List Byte) (b : Station) (parts : ChanId → List DescId), s.request = none →
    decodeFrame bytes = some (.pass b) → b + 1 = s.ownAddr →
    (onlineHearing s .gap = true → patience s b parts →
      let slips := b ≠ s.turn.counter
      ∃ v, SourceHeard b s v
        ∧ ∃ u, TurnCounted b parts { v with
            line := .quiet, sinceLow := since s bytes, counters := if slips then slipped s else s.counters,
            events := { s.events with slip := s.events.slip || decide slips },
            turn := mine (if slips then
              { s.turn with counter := b, ownTurn := false,
                            quiet := if s.turn.ownTurn then s.turn.quiet - 1 else s.turn.quiet } else s.turn) } u
        ∧ exec (.frameEnd bytes) s = .next (starts u))
    ∧ (∀ gone, onlineHearing s .window = true → patience s s.turn.counter gone →
      (s.turn.counter = s.ownAddr → nothingOutstanding s = true) →
      let quiet := if s.turn.ownTurn then s.turn.quiet - 1 else s.turn.quiet
      ∃ w, TurnCounted s.turn.counter gone s w
        ∧ ∃ v, SourceHeard b w v ∧ (patience v b parts →
          ∃ u, TurnCounted b parts { v with
              line := .quiet, sinceLow := since s bytes, counters := slipped s,
              events := { v.events with slip := true },
              turn := mine { s.turn with counter := b, ownTurn := false,
                                         quiet := if s.turn.counter + 1 = s.ownAddr then quiet - 1 else quiet } } u
            ∧ exec (.frameEnd bytes) s = .next (starts u)))
    ∧ ∀ h : Heard, s.station = .listening → s.line = .receiving h → patience s b parts →
      ∃ v, SourceHeard b s v
        ∧ ∃ u, TurnCounted b parts { v with
            station := .online, line := .quiet, sinceLow := since s bytes,
            turn := mine { s.turn with counter := b, ownTurn := false,
                                       quiet := if s.turn.flavour = .joining then 2 else 0 } } u
        ∧ exec (.frameEnd bytes) s = .next (starts u))
  ∧ ∀ u : State,
    let t := u.ownTurnStarts
    let entryIs : Nat → Option ChanId → Prop := fun j x =>
      ∃ e : Fin 32, e.val = (u.cursor + j) % u.cfg.length ∧ look u.cfg.schedule e = x
    let belowLimit : (ChanId → Prop) → Prop := fun p => ∀ m, p m → countsAbsent u m = true → (u.txc m).absence + 1 < 4
    (belowLimit (fun _ => True) → (∀ m, passedOver u m = true) →
      t = { u with tx := t.tx, request := some (.pass u.ownAddr) } ∧ ∀ m, t.txc m = absenceRaised u m)
    ∧ (∀ (n : ChanId) (df : TxDef) (h : DescId) (ms : List DescId), belowLimit (fun m => m ≠ n) →
      (∀ m, passedOver u m = true) → countsAbsent u n = true → (u.txc n).absence = 3 → (u.txc n).defn = some df →
      isChain u (h :: ms) = true →
      (∀ m b, m ≠ n → (u.txc m).defn = some b → b.submit ≠ (u.desc h).returnQueue ∧ b.submit ≠ df.submit) →
      let handed : (QueueId → List DescId) → TxChan → Prop := fun before c =>
        t = { u with tx := t.tx, descs := t.descs, queues := t.queues, request := some (.pass u.ownAddr) }
        ∧ (∀ m, t.txc m = if m = n then c else absenceRaised u m)
        ∧ (∀ q, t.queue q = before q ++ (if q = (u.desc h).returnQueue then [h] else []))
        ∧ ∀ e, t.desc e = messageDesc u df.station n .absent (h :: ms) e
      ((u.txc n).msg = some h →
        handed u.queue
          { u.txc n with state := .idle, msg := none, cur := none, attempts := 0, laters := 0, absence := 0, doubt := false,
                         tally := if (u.txc n).doubt then (u.txc n).tally + 1 else (u.txc n).tally })
      ∧ ∀ rest, (u.txc n).msg = none → u.queue df.submit = h :: rest →
        handed (fun q => if q = df.submit then rest else u.queue q) { u.txc n with absence := 0 })
    ∧ (∀ (k : Nat) (n : ChanId) (df : TxDef), u.cursor < u.cfg.length → k < u.cfg.length →
      belowLimit (fun _ => True) →
      (∀ j, j < k → entryIs j none ∨ ∃ m, entryIs j (some m) ∧ passedOver u m = true) → entryIs k (some n) →
      (u.txc n).defn = some df → (u.rosterOf df.station).state ≠ .absent →
      let next := (u.cursor + k + 1) % u.cfg.length
      let frame : DescId → DescId → DataFrame := fun h d =>
        { source := u.ownAddr, destination := df.station, channel := df.channel, tally := (u.txc n).tally,
          label := if d = h then some (u.desc h).label else none, last := (u.desc d).next.isNone,
          payload := (List.range (u.desc d).fill).map fun j => u.mem.read (64 * d.val + j) }
      (∀ h d, (u.txc n).state = .active → (u.txc n).msg = some h → (u.txc n).cur = some d →
        t = { u with tx := t.tx, cursor := next, request := some (.data (frame h d)) }
        ∧ ∀ m, t.txc m =
            if m = n then { u.txc n with outstanding := true, attempts := (u.txc n).attempts + 1 } else absenceRaised u m)
      ∧ ∀ (h : DescId) (ms rest : List DescId), (u.txc n).state = .idle → u.queue df.submit = h :: rest →
          isChain u (h :: ms) = true → (∀ d ∈ (h :: ms).dropLast, (u.desc d).fill = 64) →
          (∀ d, (h :: ms).getLast? = some d → (u.desc d).fill ≤ 64 ∧ (ms ≠ [] → 1 ≤ (u.desc d).fill)) →
          t = { u with tx := t.tx, cursor := next, descs := t.descs, queues := t.queues,
                       request := some (.data (frame h h)) }
          ∧ (∀ m, t.txc m =
              if m = n then
                { u.txc n with state := .active, msg := some h, cur := some h, attempts := 1, laters := 0,
                               doubt := false, outstanding := true }
              else absenceRaised u m)
          ∧ (∀ q, t.queue q = if q = df.submit then rest else u.queue q)
          ∧ ∀ d, t.desc d = { u.desc d with owner := if d ∈ h :: ms then .transit n else (u.desc d).owner })
    ∧ ∀ (k : Nat) (n : ChanId) (df : TxDef) (h : DescId) (ms : List DescId), u.cursor < u.cfg.length →
        k < u.cfg.length → belowLimit (fun _ => True) → entryIs k (some n) → (∀ m, m ≠ n → passedOver u m = true) →
        (u.txc n).defn = some df → (u.rosterOf df.station).state ≠ .absent → (u.txc n).state = .idle →
        u.queue df.submit = [h] → isChain u (h :: ms) = true →
        ((∃ d ∈ (h :: ms).dropLast, (u.desc d).fill ≠ 64)
          ∨ ∃ d, (h :: ms).getLast? = some d ∧ (64 < (u.desc d).fill ∨ ms ≠ [] ∧ (u.desc d).fill = 0)) →
        (u.desc h).returnQueue ≠ df.submit →
        (∀ m b, m ≠ n → (u.txc m).defn = some b → b.submit ≠ (u.desc h).returnQueue) →
        t = { u with tx := t.tx, descs := t.descs, queues := t.queues, events := { u.events with malformed := true },
                     request := some (.pass u.ownAddr) }
        ∧ (∀ m, t.txc m = absenceRaised u m)
        ∧ (∀ q, t.queue q = (if q = df.submit then [] else u.queue q) ++ (if q = (u.desc h).returnQueue then [h] else []))
        ∧ ∀ e, t.desc e = messageDesc u df.station n .malformed (h :: ms) e

/-- LISTEN_EXPIRY starts the claim wait; CLAIM_EXPIRY makes the station ONLINE at its own turn with a PASS requested
(R71, R72). -/
def Obligations.ListenThenClaim : Prop :=
  ∀ s : State, s.station = .listening → s.line = .quiet → s.request = none →
    (s.turn.timer = .listenWait →
      exec .listenExpiry s = .next { s with turn := { s.turn with timer := .claimWait } })
    ∧ (s.turn.timer = .claimWait →
      exec .claimExpiry s = .next { s with
        station := .online, request := some (.pass s.ownAddr),
        turn := { s.turn with counter := s.ownAddr, quiet := 0, timer := .stopped, ownTurn := true } })

/-! ## Limits -/

/-- ABSENCE_COUNT_LIMIT with no message in hand hands the oldest submit queue entry back ABSENT, without TRANSIT and
without the tally; with a message in hand that message fails with ABSENT; the count returns to 0 (R99, R103). The
command of its own is the model's choice: notes/assumptions/6.md. -/
def Obligations.AbsenceLimitReturnsMessage : Prop :=
  ∀ (s : State) (n : ChanId) (df : TxDef) (h : DescId) (ms : List DescId), s.station = .online → s.turn.quiet = 0 →
    (s.txc n).defn = some df → (s.txc n).absence = 3 → (s.rosterOf df.station).state = .absent →
    isChain s (h :: ms) = true →
    let handed : State → Prop := fun t => ∀ e, t.desc e =
      if e = h then
        { s.desc h with status := .absent, peer := df.station, channel := n, owner := .queued (s.desc h).returnQueue }
      else if e ∈ ms then { s.desc e with owner := .linked } else s.desc e
    (∀ rest, (s.txc n).state = .idle → (s.txc n).msg = none → s.queue df.submit = h :: rest →
      ∃ t, exec (.absenceCountLimit n) s = .next t
        ∧ t = { s with tx := t.tx, descs := t.descs, queues := t.queues }
        ∧ (∀ m, t.txc m = if m = n then { s.txc n with absence := 0 } else s.txc m)
        ∧ (∀ q, t.queue q =
            (if q = df.submit then rest else s.queue q) ++ (if q = (s.desc h).returnQueue then [h] else []))
        ∧ handed t)
    ∧ ((s.txc n).state = .active → (s.txc n).msg = some h →
      ∃ t, exec (.absenceCountLimit n) s = .next t
        ∧ t = { s with tx := t.tx, descs := t.descs, queues := t.queues }
        ∧ (∀ m, t.txc m =
            if m = n then
              { s.txc n with state := .idle, msg := none, cur := none, attempts := 0, laters := 0, absence := 0,
                             doubt := false,
                             tally := if (s.txc n).doubt then (s.txc n).tally + 1 else (s.txc n).tally }
            else s.txc m)
        ∧ (∀ q, t.queue q = s.queue q ++ (if q = (s.desc h).returnQueue then [h] else []))
        ∧ handed t)

/-- ATTEMPTS_LIMIT fails the outstanding message with NO_ANSWER, counted as unanswered, the tally advancing; LATERS_LIMIT
fails it with PEER_BUSY, the tally advancing only in doubt (R95, R98 to R100). The commands of their own are the model's
choice: notes/assumptions/6.md. -/
def Obligations.SendingLimitsFailMessage : Prop :=
  ∀ (s : State) (n : ChanId) (df : TxDef) (h : DescId) (ms : List DescId), (s.txc n).defn = some df →
    (s.txc n).state = .active → (s.txc n).outstanding = true → (s.txc n).msg = some h → isChain s (h :: ms) = true →
    ∀ (c : Instr) (st : DescStatus) (tally : Tally) (counters : Counters),
      (c = .attemptsLimit n ∧ (s.txc n).attempts = 8 ∧ st = .noAnswer ∧ tally = (s.txc n).tally + 1
          ∧ counters = { s.counters with unanswered := min (s.counters.unanswered + 1) 65535 }
        ∨ c = .latersLimit n ∧ (s.txc n).laters = 63 ∧ st = .peerBusy
          ∧ tally = (if (s.txc n).doubt then (s.txc n).tally + 1 else (s.txc n).tally) ∧ counters = s.counters) →
      ∃ t, exec c s = .next t
        ∧ t = { s with tx := t.tx, descs := t.descs, queues := t.queues, counters := counters }
        ∧ (∀ m, t.txc m =
            if m = n then
              { s.txc n with state := .idle, msg := none, cur := none, attempts := 0, laters := 0, doubt := false,
                             outstanding := false, tally := tally }
            else s.txc m)
        ∧ (∀ q, t.queue q = s.queue q ++ (if q = (s.desc h).returnQueue then [h] else []))
        ∧ ∀ e, t.desc e =
            if e = h then
              { s.desc h with status := st, peer := df.station, channel := n, owner := .queued (s.desc h).returnQueue }
            else if e ∈ ms then { s.desc e with owner := .linked } else s.desc e

/-- ROSTER_ABSENT: the second miss makes the station ABSENT with misses 2; every receive channel's tally for it becomes
NONE and an assembly or discard from it ends; a message for it in doubt fails with NO_ANSWER, a started one is rewound, one
not started stays (R81, R102, R113, R130). The model's choices: the command of its own (notes/assumptions/6.md), the returned
messages before the returned partials (notes/assumptions/10.md). -/
def Obligations.SecondMissMakesAbsent : Prop :=
  ∀ (s : State) (a : Station) (msgs parts : ChanId → List DescId), s.station = .online → s.turn.counter = a →
    a ≠ s.ownAddr → (s.rosterOf a).state ≠ .absent → (s.rosterOf a).misses = 1 →
    ending s (failsFor a) (fun c => c.busyFrom a) msgs parts = true →
    ∃ t, exec (.rosterAbsent a) s = .next t
      ∧ t = { s with roster := t.roster, tx := t.tx, rx := t.rx, tallies := t.tallies, descs := t.descs,
                     queues := t.queues, events := { s.events with abandon := s.events.abandon || !nothingFrom s a } }
      ∧ (∀ b, t.rosterOf b = if b = a then { state := .absent, misses := 2 } else s.rosterOf b)
      ∧ (∀ n b, t.tallyOf n b = if b = a then none else s.tallyOf n b)
      ∧ (∀ n, t.txc n = afterAbsence a (s.txc n))
      ∧ (∀ n, t.rxc n = if (s.rxc n).busyFrom a then afterAbandon (s.rxc n) else s.rxc n)
      ∧ (∀ q, t.queue q = s.queue q ++ endedTo s msgs parts q) ∧ ∀ e, t.desc e = endedDesc s msgs parts e

/-! ## Rules of the whole station -/

/-- Every step keeps ownership in agreement with queues and chains: each held chain is whole, its head and members owned as
its holder says, no descriptor stands twice, and every other descriptor is HOST (R7, R8 to R14, R24). The premises on the
channel contexts are kept by every step (ChannelContextsStaySound). -/
def Obligations.OwnershipFollowsQueuesAndChains : Prop :=
  ∀ s t : State, TransmitSound s → ReceiveSound s → OwnershipSound s → step s = .next t → OwnershipSound t

/-- A host command answers one of the nine status codes; while the station is STARTING it answers STARTING; and one answered
with anything but DONE changes nothing else (R177 to R179, R194). -/
def Obligations.RefusedCommandsChangeNothing : Prop :=
  ∀ (c : Instr) (s : State), isHostCommand c = true → wellFormed c = true → s.portSkips = false →
    (s.station = .starting → exec c s = .next { s with answer := [0xA8#8] })
    ∧ ∀ t, exec c s = .next t →
      ∃ (code : Byte) (results : List Byte), t.answer = code :: results
        ∧ code ∈ [0xA0#8, 0xA1#8, 0xA2#8, 0xA3#8, 0xA4#8, 0xA5#8, 0xA6#8, 0xA7#8, 0xA8#8]
        ∧ (code ≠ 0xA0#8 → t = { s with answer := code :: results } ∧ (code ≠ 0xA6#8 → results = []))

/-- Packet memory changes in three ways only: WRITE_BUFFER, a frame end whose segment is accepted, and the clearing
during STARTING (R1). -/
def Obligations.PacketMemoryWriters : Prop :=
  ∀ (c : Instr) (s t : State), writesMemory c = false → exec c s = .next t → ∀ a : Nat, t.mem.read a = s.mem.read a

/-- ATTN# is low exactly while a masked queue has an entry or an event flag is set (R39, R160). -/
def Obligations.AttentionFollowsQueuesAndFlags : Prop :=
  ∀ s : State, s.attnLow = true ↔
    (∃ q : QueueId, s.cfg.mask.getLsbD q.val = true ∧ s.queue q ≠ [])
    ∨ s.events.fault = true ∨ s.events.noMarker = true ∨ s.events.slip = true ∨ s.events.abandon = true
    ∨ s.events.drop = true ∨ s.events.malformed = true

/-- Packet memory stays in its canonical form, on which equal contents are equal data (Machine/Ops.lean). The form is
the model's own: notes/assumptions/7.md. -/
def Obligations.PacketMemoryStaysCanonical : Prop :=
  ∀ s t : State, MemoryCanonical s → step s = .next t → MemoryCanonical t

/-- Outside LISTENING, ONLINE and LEAVING the line interface is held, no frame is requested and no timer runs; in them
fewer than eight collisions stand; the quiet count is 0 to 2 and the collision count 0 to 8; every step keeps this (R56,
R57, R68, R75). That the level of RXD is kept only while the line interface is held is the model's choice:
notes/assumptions/8.md. -/
def Obligations.HeldLineStaysSilent : Prop :=
  ∀ s t : State, LineHeld s → step s = .next t → LineHeld t

/-- Every step keeps the roster: misses 0 to 2, ABSENT exactly at 2, the own entry UNKNOWN with misses 0 (R79 to R81). -/
def Obligations.RosterStaysSound : Prop :=
  ∀ s t : State, RosterSound s → step s = .next t → RosterSound t

/-- Every step keeps the active length 1 to 32 with the cursor inside it, the counters within their limits, and every
fill 0 to 64 (R3, R86, R135, R164). -/
def Obligations.ScheduleAndCountersStayInRange : Prop :=
  (∀ s t : State, ScheduleSound s → step s = .next t → ScheduleSound t)
  ∧ (∀ s t : State, CountersInRange s → step s = .next t → CountersInRange t)
  ∧ ∀ s t : State, FillsInRange s → step s = .next t → FillsInRange t

/-- Every step keeps each channel's context. Receive: a partial exactly while ASSEMBLING, a source exactly while busy, 1 to
15 segments of at most 64 bytes, idle turns below the patience, and the total and segment count of every RECEIVED head.
Transmit: a message in hand exactly while ACTIVE or TEARING, a current segment with it, attempts at most 8, laters below 64,
absence below 4, at most one segment outstanding and only during the own turn (R6, R84, R85, R111, R118, R129). -/
def Obligations.ChannelContextsStaySound : Prop :=
  (∀ s t : State, ReceiveSound s ∧ DeliveredSizes s → step s = .next t → ReceiveSound t ∧ DeliveredSizes t)
  ∧ ∀ s t : State, TransmitSound s → step s = .next t → TransmitSound t

/-- Every invariant holds at reset. -/
def Obligations.InvariantsHoldAtReset : Prop :=
  MemoryCanonical State.reset ∧ LineHeld State.reset ∧ RosterSound State.reset ∧ ScheduleSound State.reset
  ∧ CountersInRange State.reset ∧ FillsInRange State.reset ∧ ReceiveSound State.reset ∧ DeliveredSizes State.reset
  ∧ TransmitSound State.reset ∧ OwnershipSound State.reset

/-! ## Encodings -/

/-- The bytes of a well-formed command's transaction spell that command, and bytes clocked in after the taking are
ignored (R172, R173, R193). -/
def Obligations.TransactionBytesRoundTrip : Prop :=
  (∀ (c : Instr) (bytes : List Byte), wellFormed c = true → encodeTransaction c = some bytes →
    decodeTransaction bytes = c)
  ∧ ∀ bytes more : List Byte, commandTaken bytes = true → decodeTransaction (bytes ++ more) = decodeTransaction bytes

/-- Every frame a station can send is read back as the same frame, with the byte count its fields give (R44, R46, R47,
R191, R192). -/
def Obligations.FrameBytesRoundTrip : Prop :=
  ∀ f : Frame, (∀ g, f = .data g → g.payload.length ≤ 64) →
    decodeFrame (encodeFrame f) = some f ∧ expectedCount (encodeFrame f) = some (encodeFrame f).length

/-- The check sequence tells any frame from one with a single byte changed (R46). -/
def Obligations.CheckSequenceSeesChangedByte : Prop :=
  ∀ (bytes : List Byte) (i : Nat) (b : Byte), crcMatches bytes = true → i < bytes.length → bytes.getD i 0 ≠ b →
    crcMatches (bytes.set i b) = false

/-! ## The end of LEAVING -/

/-- The end of the own turn while LEAVING with a segment outstanding: the reply, or its absence, is taken; the frame that
ended the turn updates the roster and slips when it is a PASS or DATA; then the station is OFFLINE: a message left in doubt
fails with NO_ANSWER, the others are rewound, and every assembly and discard ends (R50, R57, R64, R66, R77, R78, R80, R93,
R94, R98, R105, R109, R131). The model's choices: the order of that step with the entry to OFFLINE (notes/assumptions/3.md,
notes/assumptions/10.md) and the time since RXD was low (notes/assumptions/8.md). -/
def Obligations.LeavingEndsWithOwnTurn : Prop :=
  ∀ (s : State) (n : ChanId), s.station = .leaving → s.request = none → s.turn.counter = s.ownAddr →
    onlyOutstanding s n = true → (s.txc n).state = .active → nothingFrom s s.ownAddr = true →
    let off : Station → TurnControl := fun a => { turnOff s.turn with counter := a }
    let unanswered := s.setTx n { s.txc n with doubt := true }
    let counters := { s.counters with unanswered := min (s.counters.unanswered + 1) 65535 }
    (∀ df h msgs parts, (s.txc n).defn = some df → (s.txc n).msg = some h → s.line = .quiet →
      s.turn.timer = .responseWindow → (s.txc n).attempts < 8 →
      ending unanswered TxChan.doubt RxChan.busy msgs parts = true →
      ∃ t, exec .responseWindowExpiry s = .next t
        ∧ t = { s with station := .offline, turn := off (s.ownAddr + 1), tx := t.tx, rx := t.rx, descs := t.descs,
                       queues := t.queues, counters := counters,
                       events := { s.events with abandon := s.events.abandon || !noneBusy s } }
        ∧ (∀ m, t.txc m = afterExit (unanswered.txc m)) ∧ (∀ m, t.rxc m = afterOffline (s.rxc m))
        ∧ (∀ q, t.queue q = s.queue q ++ endedTo s msgs parts q) ∧ ∀ e, t.desc e = endedDesc s msgs parts e)
    ∧ ∀ (bytes : List Byte) (df : TxDef) (h : DescId) (ms : List DescId),
      s.line = .receiving { began := .window, counted := true, remainder := false } → noneBusy s = true →
      (∀ m, m ≠ n → (s.txc m).doubt = false) → (s.txc n).defn = some df → (s.txc n).msg = some h →
      isChain s (h :: ms) = true →
      let ended : State → Tally → DescStatus → Station → Prop := fun t tally st a =>
        (∀ c, t.rosterOf c = rosterAfter s a c) ∧ (∀ m, t.rxc m = afterOffline (s.rxc m))
        ∧ (∀ m, t.txc m =
            if m = n then
              { defn := some df, state := .idle, msg := none, cur := none, tally := tally, attempts := 0, laters := 0,
                absence := 0, doubt := false, outstanding := false }
            else afterExit (s.txc m))
        ∧ (∀ q, t.queue q = s.queue q ++ (if q = (s.desc h).returnQueue then [h] else []))
        ∧ ∀ e, t.desc e = messageDesc s df.station n st (h :: ms) e
      let since := trailingHigh (bytes.getLastD 0) * Config.bitTime s.cfg.rate
      (∀ d code, (s.txc n).cur = some d → (s.desc d).next = none → code = .taken ∨ code = .seen →
        decodeFrame bytes = some (.reply { source := df.station, destination := s.ownAddr, channel := df.channel,
                                           tallyEcho := (s.txc n).tally, code := code }) →
        ∃ t, exec (.frameEnd bytes) s = .next t
          ∧ t = { s with station := .offline, line := .quiet, turn := off (s.ownAddr + 1), roster := t.roster,
                         tx := t.tx, rx := t.rx, descs := t.descs, queues := t.queues, sinceLow := since }
          ∧ ended t ((s.txc n).tally + 1) .delivered df.station)
      ∧ ∀ (g : Frame) (b : Station), decodeFrame bytes = some g → (g = .pass b ∨ ∃ f, g = .data f ∧ f.source = b) →
        ∃ t, exec (.frameEnd bytes) s = .next t
          ∧ t = { s with station := .offline, line := .quiet, turn := off (if g = .pass b then b + 1 else b),
                         roster := t.roster, tx := t.tx, rx := t.rx, descs := t.descs, queues := t.queues,
                         sinceLow := since,
                         counters := { counters with slips := min (s.counters.slips + 1) 65535 },
                         events := { s.events with slip := true } }
          ∧ ended t ((s.txc n).tally + 1) .noAnswer b
end

