-- ==== Sys2Proof/Laws/State.lean ====
section
/-! SUPPORT. The named updates of the state, field by field: what each leaves, and what it puts where. -/

namespace Sys2Proof.Machine

variable (s : State)

/-! ### setDesc -/

@[simp] theorem State.setDesc_station (d : DescId) (x : Desc) : (s.setDesc d x).station = s.station := rfl
@[simp] theorem State.setDesc_ownAddr (d : DescId) (x : Desc) : (s.setDesc d x).ownAddr = s.ownAddr := rfl
@[simp] theorem State.setDesc_mem (d : DescId) (x : Desc) : (s.setDesc d x).mem = s.mem := rfl
@[simp] theorem State.setDesc_queues (d : DescId) (x : Desc) : (s.setDesc d x).queues = s.queues := rfl
@[simp] theorem State.setDesc_tx (d : DescId) (x : Desc) : (s.setDesc d x).tx = s.tx := rfl
@[simp] theorem State.setDesc_rx (d : DescId) (x : Desc) : (s.setDesc d x).rx = s.rx := rfl
@[simp] theorem State.setDesc_tallies (d : DescId) (x : Desc) : (s.setDesc d x).tallies = s.tallies := rfl
@[simp] theorem State.setDesc_cfg (d : DescId) (x : Desc) : (s.setDesc d x).cfg = s.cfg := rfl
@[simp] theorem State.setDesc_cursor (d : DescId) (x : Desc) : (s.setDesc d x).cursor = s.cursor := rfl
@[simp] theorem State.setDesc_turn (d : DescId) (x : Desc) : (s.setDesc d x).turn = s.turn := rfl
@[simp] theorem State.setDesc_roster (d : DescId) (x : Desc) : (s.setDesc d x).roster = s.roster := rfl
@[simp] theorem State.setDesc_line (d : DescId) (x : Desc) : (s.setDesc d x).line = s.line := rfl
@[simp] theorem State.setDesc_request (d : DescId) (x : Desc) : (s.setDesc d x).request = s.request := rfl
@[simp] theorem State.setDesc_sinceLow (d : DescId) (x : Desc) : (s.setDesc d x).sinceLow = s.sinceLow := rfl
@[simp] theorem State.setDesc_rxdLow (d : DescId) (x : Desc) : (s.setDesc d x).rxdLow = s.rxdLow := rfl
@[simp] theorem State.setDesc_events (d : DescId) (x : Desc) : (s.setDesc d x).events = s.events := rfl
@[simp] theorem State.setDesc_counters (d : DescId) (x : Desc) : (s.setDesc d x).counters = s.counters := rfl
@[simp] theorem State.setDesc_answer (d : DescId) (x : Desc) : (s.setDesc d x).answer = s.answer := rfl
@[simp] theorem State.setDesc_portSkips (d : DescId) (x : Desc) : (s.setDesc d x).portSkips = s.portSkips := rfl
@[simp] theorem State.setDesc_pending (d : DescId) (x : Desc) : (s.setDesc d x).pending = s.pending := rfl

/-! ### setOwner -/

@[simp] theorem State.setOwner_station (d : DescId) (o : Owner) : (s.setOwner d o).station = s.station := rfl
@[simp] theorem State.setOwner_ownAddr (d : DescId) (o : Owner) : (s.setOwner d o).ownAddr = s.ownAddr := rfl
@[simp] theorem State.setOwner_mem (d : DescId) (o : Owner) : (s.setOwner d o).mem = s.mem := rfl
@[simp] theorem State.setOwner_queues (d : DescId) (o : Owner) : (s.setOwner d o).queues = s.queues := rfl
@[simp] theorem State.setOwner_tx (d : DescId) (o : Owner) : (s.setOwner d o).tx = s.tx := rfl
@[simp] theorem State.setOwner_rx (d : DescId) (o : Owner) : (s.setOwner d o).rx = s.rx := rfl
@[simp] theorem State.setOwner_tallies (d : DescId) (o : Owner) : (s.setOwner d o).tallies = s.tallies := rfl
@[simp] theorem State.setOwner_cfg (d : DescId) (o : Owner) : (s.setOwner d o).cfg = s.cfg := rfl
@[simp] theorem State.setOwner_cursor (d : DescId) (o : Owner) : (s.setOwner d o).cursor = s.cursor := rfl
@[simp] theorem State.setOwner_turn (d : DescId) (o : Owner) : (s.setOwner d o).turn = s.turn := rfl
@[simp] theorem State.setOwner_roster (d : DescId) (o : Owner) : (s.setOwner d o).roster = s.roster := rfl
@[simp] theorem State.setOwner_line (d : DescId) (o : Owner) : (s.setOwner d o).line = s.line := rfl
@[simp] theorem State.setOwner_request (d : DescId) (o : Owner) : (s.setOwner d o).request = s.request := rfl
@[simp] theorem State.setOwner_sinceLow (d : DescId) (o : Owner) : (s.setOwner d o).sinceLow = s.sinceLow := rfl
@[simp] theorem State.setOwner_rxdLow (d : DescId) (o : Owner) : (s.setOwner d o).rxdLow = s.rxdLow := rfl
@[simp] theorem State.setOwner_events (d : DescId) (o : Owner) : (s.setOwner d o).events = s.events := rfl
@[simp] theorem State.setOwner_counters (d : DescId) (o : Owner) : (s.setOwner d o).counters = s.counters := rfl
@[simp] theorem State.setOwner_answer (d : DescId) (o : Owner) : (s.setOwner d o).answer = s.answer := rfl
@[simp] theorem State.setOwner_portSkips (d : DescId) (o : Owner) : (s.setOwner d o).portSkips = s.portSkips := rfl
@[simp] theorem State.setOwner_pending (d : DescId) (o : Owner) : (s.setOwner d o).pending = s.pending := rfl

/-! ### setQueue -/

@[simp] theorem State.setQueue_station (q : QueueId) (l : List DescId) : (s.setQueue q l).station = s.station := rfl
@[simp] theorem State.setQueue_ownAddr (q : QueueId) (l : List DescId) : (s.setQueue q l).ownAddr = s.ownAddr := rfl
@[simp] theorem State.setQueue_descs (q : QueueId) (l : List DescId) : (s.setQueue q l).descs = s.descs := rfl
@[simp] theorem State.setQueue_mem (q : QueueId) (l : List DescId) : (s.setQueue q l).mem = s.mem := rfl
@[simp] theorem State.setQueue_tx (q : QueueId) (l : List DescId) : (s.setQueue q l).tx = s.tx := rfl
@[simp] theorem State.setQueue_rx (q : QueueId) (l : List DescId) : (s.setQueue q l).rx = s.rx := rfl
@[simp] theorem State.setQueue_tallies (q : QueueId) (l : List DescId) : (s.setQueue q l).tallies = s.tallies := rfl
@[simp] theorem State.setQueue_cfg (q : QueueId) (l : List DescId) : (s.setQueue q l).cfg = s.cfg := rfl
@[simp] theorem State.setQueue_cursor (q : QueueId) (l : List DescId) : (s.setQueue q l).cursor = s.cursor := rfl
@[simp] theorem State.setQueue_turn (q : QueueId) (l : List DescId) : (s.setQueue q l).turn = s.turn := rfl
@[simp] theorem State.setQueue_roster (q : QueueId) (l : List DescId) : (s.setQueue q l).roster = s.roster := rfl
@[simp] theorem State.setQueue_line (q : QueueId) (l : List DescId) : (s.setQueue q l).line = s.line := rfl
@[simp] theorem State.setQueue_request (q : QueueId) (l : List DescId) : (s.setQueue q l).request = s.request := rfl
@[simp] theorem State.setQueue_sinceLow (q : QueueId) (l : List DescId) : (s.setQueue q l).sinceLow = s.sinceLow := rfl
@[simp] theorem State.setQueue_rxdLow (q : QueueId) (l : List DescId) : (s.setQueue q l).rxdLow = s.rxdLow := rfl
@[simp] theorem State.setQueue_events (q : QueueId) (l : List DescId) : (s.setQueue q l).events = s.events := rfl
@[simp] theorem State.setQueue_counters (q : QueueId) (l : List DescId) : (s.setQueue q l).counters = s.counters := rfl
@[simp] theorem State.setQueue_answer (q : QueueId) (l : List DescId) : (s.setQueue q l).answer = s.answer := rfl
@[simp] theorem State.setQueue_portSkips (q : QueueId) (l : List DescId) : (s.setQueue q l).portSkips = s.portSkips := rfl
@[simp] theorem State.setQueue_pending (q : QueueId) (l : List DescId) : (s.setQueue q l).pending = s.pending := rfl

/-! ### setTx -/

@[simp] theorem State.setTx_station (n : ChanId) (c : TxChan) : (s.setTx n c).station = s.station := rfl
@[simp] theorem State.setTx_ownAddr (n : ChanId) (c : TxChan) : (s.setTx n c).ownAddr = s.ownAddr := rfl
@[simp] theorem State.setTx_descs (n : ChanId) (c : TxChan) : (s.setTx n c).descs = s.descs := rfl
@[simp] theorem State.setTx_mem (n : ChanId) (c : TxChan) : (s.setTx n c).mem = s.mem := rfl
@[simp] theorem State.setTx_queues (n : ChanId) (c : TxChan) : (s.setTx n c).queues = s.queues := rfl
@[simp] theorem State.setTx_rx (n : ChanId) (c : TxChan) : (s.setTx n c).rx = s.rx := rfl
@[simp] theorem State.setTx_tallies (n : ChanId) (c : TxChan) : (s.setTx n c).tallies = s.tallies := rfl
@[simp] theorem State.setTx_cfg (n : ChanId) (c : TxChan) : (s.setTx n c).cfg = s.cfg := rfl
@[simp] theorem State.setTx_cursor (n : ChanId) (c : TxChan) : (s.setTx n c).cursor = s.cursor := rfl
@[simp] theorem State.setTx_turn (n : ChanId) (c : TxChan) : (s.setTx n c).turn = s.turn := rfl
@[simp] theorem State.setTx_roster (n : ChanId) (c : TxChan) : (s.setTx n c).roster = s.roster := rfl
@[simp] theorem State.setTx_line (n : ChanId) (c : TxChan) : (s.setTx n c).line = s.line := rfl
@[simp] theorem State.setTx_request (n : ChanId) (c : TxChan) : (s.setTx n c).request = s.request := rfl
@[simp] theorem State.setTx_sinceLow (n : ChanId) (c : TxChan) : (s.setTx n c).sinceLow = s.sinceLow := rfl
@[simp] theorem State.setTx_rxdLow (n : ChanId) (c : TxChan) : (s.setTx n c).rxdLow = s.rxdLow := rfl
@[simp] theorem State.setTx_events (n : ChanId) (c : TxChan) : (s.setTx n c).events = s.events := rfl
@[simp] theorem State.setTx_counters (n : ChanId) (c : TxChan) : (s.setTx n c).counters = s.counters := rfl
@[simp] theorem State.setTx_answer (n : ChanId) (c : TxChan) : (s.setTx n c).answer = s.answer := rfl
@[simp] theorem State.setTx_portSkips (n : ChanId) (c : TxChan) : (s.setTx n c).portSkips = s.portSkips := rfl
@[simp] theorem State.setTx_pending (n : ChanId) (c : TxChan) : (s.setTx n c).pending = s.pending := rfl

/-! ### setRx -/

@[simp] theorem State.setRx_station (n : ChanId) (c : RxChan) : (s.setRx n c).station = s.station := rfl
@[simp] theorem State.setRx_ownAddr (n : ChanId) (c : RxChan) : (s.setRx n c).ownAddr = s.ownAddr := rfl
@[simp] theorem State.setRx_descs (n : ChanId) (c : RxChan) : (s.setRx n c).descs = s.descs := rfl
@[simp] theorem State.setRx_mem (n : ChanId) (c : RxChan) : (s.setRx n c).mem = s.mem := rfl
@[simp] theorem State.setRx_queues (n : ChanId) (c : RxChan) : (s.setRx n c).queues = s.queues := rfl
@[simp] theorem State.setRx_tx (n : ChanId) (c : RxChan) : (s.setRx n c).tx = s.tx := rfl
@[simp] theorem State.setRx_tallies (n : ChanId) (c : RxChan) : (s.setRx n c).tallies = s.tallies := rfl
@[simp] theorem State.setRx_cfg (n : ChanId) (c : RxChan) : (s.setRx n c).cfg = s.cfg := rfl
@[simp] theorem State.setRx_cursor (n : ChanId) (c : RxChan) : (s.setRx n c).cursor = s.cursor := rfl
@[simp] theorem State.setRx_turn (n : ChanId) (c : RxChan) : (s.setRx n c).turn = s.turn := rfl
@[simp] theorem State.setRx_roster (n : ChanId) (c : RxChan) : (s.setRx n c).roster = s.roster := rfl
@[simp] theorem State.setRx_line (n : ChanId) (c : RxChan) : (s.setRx n c).line = s.line := rfl
@[simp] theorem State.setRx_request (n : ChanId) (c : RxChan) : (s.setRx n c).request = s.request := rfl
@[simp] theorem State.setRx_sinceLow (n : ChanId) (c : RxChan) : (s.setRx n c).sinceLow = s.sinceLow := rfl
@[simp] theorem State.setRx_rxdLow (n : ChanId) (c : RxChan) : (s.setRx n c).rxdLow = s.rxdLow := rfl
@[simp] theorem State.setRx_events (n : ChanId) (c : RxChan) : (s.setRx n c).events = s.events := rfl
@[simp] theorem State.setRx_counters (n : ChanId) (c : RxChan) : (s.setRx n c).counters = s.counters := rfl
@[simp] theorem State.setRx_answer (n : ChanId) (c : RxChan) : (s.setRx n c).answer = s.answer := rfl
@[simp] theorem State.setRx_portSkips (n : ChanId) (c : RxChan) : (s.setRx n c).portSkips = s.portSkips := rfl
@[simp] theorem State.setRx_pending (n : ChanId) (c : RxChan) : (s.setRx n c).pending = s.pending := rfl

/-! ### setTally -/

@[simp] theorem State.setTally_station (n : ChanId) (a : Station) (v : Option Tally) : (s.setTally n a v).station = s.station := rfl
@[simp] theorem State.setTally_ownAddr (n : ChanId) (a : Station) (v : Option Tally) : (s.setTally n a v).ownAddr = s.ownAddr := rfl
@[simp] theorem State.setTally_descs (n : ChanId) (a : Station) (v : Option Tally) : (s.setTally n a v).descs = s.descs := rfl
@[simp] theorem State.setTally_mem (n : ChanId) (a : Station) (v : Option Tally) : (s.setTally n a v).mem = s.mem := rfl
@[simp] theorem State.setTally_queues (n : ChanId) (a : Station) (v : Option Tally) : (s.setTally n a v).queues = s.queues := rfl
@[simp] theorem State.setTally_tx (n : ChanId) (a : Station) (v : Option Tally) : (s.setTally n a v).tx = s.tx := rfl
@[simp] theorem State.setTally_rx (n : ChanId) (a : Station) (v : Option Tally) : (s.setTally n a v).rx = s.rx := rfl
@[simp] theorem State.setTally_cfg (n : ChanId) (a : Station) (v : Option Tally) : (s.setTally n a v).cfg = s.cfg := rfl
@[simp] theorem State.setTally_cursor (n : ChanId) (a : Station) (v : Option Tally) : (s.setTally n a v).cursor = s.cursor := rfl
@[simp] theorem State.setTally_turn (n : ChanId) (a : Station) (v : Option Tally) : (s.setTally n a v).turn = s.turn := rfl
@[simp] theorem State.setTally_roster (n : ChanId) (a : Station) (v : Option Tally) : (s.setTally n a v).roster = s.roster := rfl
@[simp] theorem State.setTally_line (n : ChanId) (a : Station) (v : Option Tally) : (s.setTally n a v).line = s.line := rfl
@[simp] theorem State.setTally_request (n : ChanId) (a : Station) (v : Option Tally) : (s.setTally n a v).request = s.request := rfl
@[simp] theorem State.setTally_sinceLow (n : ChanId) (a : Station) (v : Option Tally) : (s.setTally n a v).sinceLow = s.sinceLow := rfl
@[simp] theorem State.setTally_rxdLow (n : ChanId) (a : Station) (v : Option Tally) : (s.setTally n a v).rxdLow = s.rxdLow := rfl
@[simp] theorem State.setTally_events (n : ChanId) (a : Station) (v : Option Tally) : (s.setTally n a v).events = s.events := rfl
@[simp] theorem State.setTally_counters (n : ChanId) (a : Station) (v : Option Tally) : (s.setTally n a v).counters = s.counters := rfl
@[simp] theorem State.setTally_answer (n : ChanId) (a : Station) (v : Option Tally) : (s.setTally n a v).answer = s.answer := rfl
@[simp] theorem State.setTally_portSkips (n : ChanId) (a : Station) (v : Option Tally) : (s.setTally n a v).portSkips = s.portSkips := rfl
@[simp] theorem State.setTally_pending (n : ChanId) (a : Station) (v : Option Tally) : (s.setTally n a v).pending = s.pending := rfl

/-! ### clearTallyRow -/

@[simp] theorem State.clearTallyRow_station (n : ChanId) : (s.clearTallyRow n).station = s.station := rfl
@[simp] theorem State.clearTallyRow_ownAddr (n : ChanId) : (s.clearTallyRow n).ownAddr = s.ownAddr := rfl
@[simp] theorem State.clearTallyRow_descs (n : ChanId) : (s.clearTallyRow n).descs = s.descs := rfl
@[simp] theorem State.clearTallyRow_mem (n : ChanId) : (s.clearTallyRow n).mem = s.mem := rfl
@[simp] theorem State.clearTallyRow_queues (n : ChanId) : (s.clearTallyRow n).queues = s.queues := rfl
@[simp] theorem State.clearTallyRow_tx (n : ChanId) : (s.clearTallyRow n).tx = s.tx := rfl
@[simp] theorem State.clearTallyRow_rx (n : ChanId) : (s.clearTallyRow n).rx = s.rx := rfl
@[simp] theorem State.clearTallyRow_cfg (n : ChanId) : (s.clearTallyRow n).cfg = s.cfg := rfl
@[simp] theorem State.clearTallyRow_cursor (n : ChanId) : (s.clearTallyRow n).cursor = s.cursor := rfl
@[simp] theorem State.clearTallyRow_turn (n : ChanId) : (s.clearTallyRow n).turn = s.turn := rfl
@[simp] theorem State.clearTallyRow_roster (n : ChanId) : (s.clearTallyRow n).roster = s.roster := rfl
@[simp] theorem State.clearTallyRow_line (n : ChanId) : (s.clearTallyRow n).line = s.line := rfl
@[simp] theorem State.clearTallyRow_request (n : ChanId) : (s.clearTallyRow n).request = s.request := rfl
@[simp] theorem State.clearTallyRow_sinceLow (n : ChanId) : (s.clearTallyRow n).sinceLow = s.sinceLow := rfl
@[simp] theorem State.clearTallyRow_rxdLow (n : ChanId) : (s.clearTallyRow n).rxdLow = s.rxdLow := rfl
@[simp] theorem State.clearTallyRow_events (n : ChanId) : (s.clearTallyRow n).events = s.events := rfl
@[simp] theorem State.clearTallyRow_counters (n : ChanId) : (s.clearTallyRow n).counters = s.counters := rfl
@[simp] theorem State.clearTallyRow_answer (n : ChanId) : (s.clearTallyRow n).answer = s.answer := rfl
@[simp] theorem State.clearTallyRow_portSkips (n : ChanId) : (s.clearTallyRow n).portSkips = s.portSkips := rfl
@[simp] theorem State.clearTallyRow_pending (n : ChanId) : (s.clearTallyRow n).pending = s.pending := rfl

/-! ### setRoster -/

@[simp] theorem State.setRoster_station (a : Station) (e : RosterEntry) : (s.setRoster a e).station = s.station := rfl
@[simp] theorem State.setRoster_ownAddr (a : Station) (e : RosterEntry) : (s.setRoster a e).ownAddr = s.ownAddr := rfl
@[simp] theorem State.setRoster_descs (a : Station) (e : RosterEntry) : (s.setRoster a e).descs = s.descs := rfl
@[simp] theorem State.setRoster_mem (a : Station) (e : RosterEntry) : (s.setRoster a e).mem = s.mem := rfl
@[simp] theorem State.setRoster_queues (a : Station) (e : RosterEntry) : (s.setRoster a e).queues = s.queues := rfl
@[simp] theorem State.setRoster_tx (a : Station) (e : RosterEntry) : (s.setRoster a e).tx = s.tx := rfl
@[simp] theorem State.setRoster_rx (a : Station) (e : RosterEntry) : (s.setRoster a e).rx = s.rx := rfl
@[simp] theorem State.setRoster_tallies (a : Station) (e : RosterEntry) : (s.setRoster a e).tallies = s.tallies := rfl
@[simp] theorem State.setRoster_cfg (a : Station) (e : RosterEntry) : (s.setRoster a e).cfg = s.cfg := rfl
@[simp] theorem State.setRoster_cursor (a : Station) (e : RosterEntry) : (s.setRoster a e).cursor = s.cursor := rfl
@[simp] theorem State.setRoster_turn (a : Station) (e : RosterEntry) : (s.setRoster a e).turn = s.turn := rfl
@[simp] theorem State.setRoster_line (a : Station) (e : RosterEntry) : (s.setRoster a e).line = s.line := rfl
@[simp] theorem State.setRoster_request (a : Station) (e : RosterEntry) : (s.setRoster a e).request = s.request := rfl
@[simp] theorem State.setRoster_sinceLow (a : Station) (e : RosterEntry) : (s.setRoster a e).sinceLow = s.sinceLow := rfl
@[simp] theorem State.setRoster_rxdLow (a : Station) (e : RosterEntry) : (s.setRoster a e).rxdLow = s.rxdLow := rfl
@[simp] theorem State.setRoster_events (a : Station) (e : RosterEntry) : (s.setRoster a e).events = s.events := rfl
@[simp] theorem State.setRoster_counters (a : Station) (e : RosterEntry) : (s.setRoster a e).counters = s.counters := rfl
@[simp] theorem State.setRoster_answer (a : Station) (e : RosterEntry) : (s.setRoster a e).answer = s.answer := rfl
@[simp] theorem State.setRoster_portSkips (a : Station) (e : RosterEntry) : (s.setRoster a e).portSkips = s.portSkips := rfl
@[simp] theorem State.setRoster_pending (a : Station) (e : RosterEntry) : (s.setRoster a e).pending = s.pending := rfl

/-! ### writeBuffer -/

@[simp] theorem State.writeBuffer_station (d : DescId) (o : Nat) (bs : List Byte) : (s.writeBuffer d o bs).station = s.station := rfl
@[simp] theorem State.writeBuffer_ownAddr (d : DescId) (o : Nat) (bs : List Byte) : (s.writeBuffer d o bs).ownAddr = s.ownAddr := rfl
@[simp] theorem State.writeBuffer_descs (d : DescId) (o : Nat) (bs : List Byte) : (s.writeBuffer d o bs).descs = s.descs := rfl
@[simp] theorem State.writeBuffer_queues (d : DescId) (o : Nat) (bs : List Byte) : (s.writeBuffer d o bs).queues = s.queues := rfl
@[simp] theorem State.writeBuffer_tx (d : DescId) (o : Nat) (bs : List Byte) : (s.writeBuffer d o bs).tx = s.tx := rfl
@[simp] theorem State.writeBuffer_rx (d : DescId) (o : Nat) (bs : List Byte) : (s.writeBuffer d o bs).rx = s.rx := rfl
@[simp] theorem State.writeBuffer_tallies (d : DescId) (o : Nat) (bs : List Byte) : (s.writeBuffer d o bs).tallies = s.tallies := rfl
@[simp] theorem State.writeBuffer_cfg (d : DescId) (o : Nat) (bs : List Byte) : (s.writeBuffer d o bs).cfg = s.cfg := rfl
@[simp] theorem State.writeBuffer_cursor (d : DescId) (o : Nat) (bs : List Byte) : (s.writeBuffer d o bs).cursor = s.cursor := rfl
@[simp] theorem State.writeBuffer_turn (d : DescId) (o : Nat) (bs : List Byte) : (s.writeBuffer d o bs).turn = s.turn := rfl
@[simp] theorem State.writeBuffer_roster (d : DescId) (o : Nat) (bs : List Byte) : (s.writeBuffer d o bs).roster = s.roster := rfl
@[simp] theorem State.writeBuffer_line (d : DescId) (o : Nat) (bs : List Byte) : (s.writeBuffer d o bs).line = s.line := rfl
@[simp] theorem State.writeBuffer_request (d : DescId) (o : Nat) (bs : List Byte) : (s.writeBuffer d o bs).request = s.request := rfl
@[simp] theorem State.writeBuffer_sinceLow (d : DescId) (o : Nat) (bs : List Byte) : (s.writeBuffer d o bs).sinceLow = s.sinceLow := rfl
@[simp] theorem State.writeBuffer_rxdLow (d : DescId) (o : Nat) (bs : List Byte) : (s.writeBuffer d o bs).rxdLow = s.rxdLow := rfl
@[simp] theorem State.writeBuffer_events (d : DescId) (o : Nat) (bs : List Byte) : (s.writeBuffer d o bs).events = s.events := rfl
@[simp] theorem State.writeBuffer_counters (d : DescId) (o : Nat) (bs : List Byte) : (s.writeBuffer d o bs).counters = s.counters := rfl
@[simp] theorem State.writeBuffer_answer (d : DescId) (o : Nat) (bs : List Byte) : (s.writeBuffer d o bs).answer = s.answer := rfl
@[simp] theorem State.writeBuffer_portSkips (d : DescId) (o : Nat) (bs : List Byte) : (s.writeBuffer d o bs).portSkips = s.portSkips := rfl
@[simp] theorem State.writeBuffer_pending (d : DescId) (o : Nat) (bs : List Byte) : (s.writeBuffer d o bs).pending = s.pending := rfl

/-! ### raise -/

@[simp] theorem State.raise_station (e : Event) : (s.raise e).station = s.station := rfl
@[simp] theorem State.raise_ownAddr (e : Event) : (s.raise e).ownAddr = s.ownAddr := rfl
@[simp] theorem State.raise_descs (e : Event) : (s.raise e).descs = s.descs := rfl
@[simp] theorem State.raise_mem (e : Event) : (s.raise e).mem = s.mem := rfl
@[simp] theorem State.raise_queues (e : Event) : (s.raise e).queues = s.queues := rfl
@[simp] theorem State.raise_tx (e : Event) : (s.raise e).tx = s.tx := rfl
@[simp] theorem State.raise_rx (e : Event) : (s.raise e).rx = s.rx := rfl
@[simp] theorem State.raise_tallies (e : Event) : (s.raise e).tallies = s.tallies := rfl
@[simp] theorem State.raise_cfg (e : Event) : (s.raise e).cfg = s.cfg := rfl
@[simp] theorem State.raise_cursor (e : Event) : (s.raise e).cursor = s.cursor := rfl
@[simp] theorem State.raise_turn (e : Event) : (s.raise e).turn = s.turn := rfl
@[simp] theorem State.raise_roster (e : Event) : (s.raise e).roster = s.roster := rfl
@[simp] theorem State.raise_line (e : Event) : (s.raise e).line = s.line := rfl
@[simp] theorem State.raise_request (e : Event) : (s.raise e).request = s.request := rfl
@[simp] theorem State.raise_sinceLow (e : Event) : (s.raise e).sinceLow = s.sinceLow := rfl
@[simp] theorem State.raise_rxdLow (e : Event) : (s.raise e).rxdLow = s.rxdLow := rfl
@[simp] theorem State.raise_counters (e : Event) : (s.raise e).counters = s.counters := rfl
@[simp] theorem State.raise_answer (e : Event) : (s.raise e).answer = s.answer := rfl
@[simp] theorem State.raise_portSkips (e : Event) : (s.raise e).portSkips = s.portSkips := rfl
@[simp] theorem State.raise_pending (e : Event) : (s.raise e).pending = s.pending := rfl

/-! ### count -/

@[simp] theorem State.count_station (c : Counter) : (s.count c).station = s.station := rfl
@[simp] theorem State.count_ownAddr (c : Counter) : (s.count c).ownAddr = s.ownAddr := rfl
@[simp] theorem State.count_descs (c : Counter) : (s.count c).descs = s.descs := rfl
@[simp] theorem State.count_mem (c : Counter) : (s.count c).mem = s.mem := rfl
@[simp] theorem State.count_queues (c : Counter) : (s.count c).queues = s.queues := rfl
@[simp] theorem State.count_tx (c : Counter) : (s.count c).tx = s.tx := rfl
@[simp] theorem State.count_rx (c : Counter) : (s.count c).rx = s.rx := rfl
@[simp] theorem State.count_tallies (c : Counter) : (s.count c).tallies = s.tallies := rfl
@[simp] theorem State.count_cfg (c : Counter) : (s.count c).cfg = s.cfg := rfl
@[simp] theorem State.count_cursor (c : Counter) : (s.count c).cursor = s.cursor := rfl
@[simp] theorem State.count_turn (c : Counter) : (s.count c).turn = s.turn := rfl
@[simp] theorem State.count_roster (c : Counter) : (s.count c).roster = s.roster := rfl
@[simp] theorem State.count_line (c : Counter) : (s.count c).line = s.line := rfl
@[simp] theorem State.count_request (c : Counter) : (s.count c).request = s.request := rfl
@[simp] theorem State.count_sinceLow (c : Counter) : (s.count c).sinceLow = s.sinceLow := rfl
@[simp] theorem State.count_rxdLow (c : Counter) : (s.count c).rxdLow = s.rxdLow := rfl
@[simp] theorem State.count_events (c : Counter) : (s.count c).events = s.events := rfl
@[simp] theorem State.count_answer (c : Counter) : (s.count c).answer = s.answer := rfl
@[simp] theorem State.count_portSkips (c : Counter) : (s.count c).portSkips = s.portSkips := rfl
@[simp] theorem State.count_pending (c : Counter) : (s.count c).pending = s.pending := rfl

/-! ### answering -/

@[simp] theorem State.answering_station (st : Status) (rs : List Byte) : (s.answering st rs).station = s.station := rfl
@[simp] theorem State.answering_ownAddr (st : Status) (rs : List Byte) : (s.answering st rs).ownAddr = s.ownAddr := rfl
@[simp] theorem State.answering_descs (st : Status) (rs : List Byte) : (s.answering st rs).descs = s.descs := rfl
@[simp] theorem State.answering_mem (st : Status) (rs : List Byte) : (s.answering st rs).mem = s.mem := rfl
@[simp] theorem State.answering_queues (st : Status) (rs : List Byte) : (s.answering st rs).queues = s.queues := rfl
@[simp] theorem State.answering_tx (st : Status) (rs : List Byte) : (s.answering st rs).tx = s.tx := rfl
@[simp] theorem State.answering_rx (st : Status) (rs : List Byte) : (s.answering st rs).rx = s.rx := rfl
@[simp] theorem State.answering_tallies (st : Status) (rs : List Byte) : (s.answering st rs).tallies = s.tallies := rfl
@[simp] theorem State.answering_cfg (st : Status) (rs : List Byte) : (s.answering st rs).cfg = s.cfg := rfl
@[simp] theorem State.answering_cursor (st : Status) (rs : List Byte) : (s.answering st rs).cursor = s.cursor := rfl
@[simp] theorem State.answering_turn (st : Status) (rs : List Byte) : (s.answering st rs).turn = s.turn := rfl
@[simp] theorem State.answering_roster (st : Status) (rs : List Byte) : (s.answering st rs).roster = s.roster := rfl
@[simp] theorem State.answering_line (st : Status) (rs : List Byte) : (s.answering st rs).line = s.line := rfl
@[simp] theorem State.answering_request (st : Status) (rs : List Byte) : (s.answering st rs).request = s.request := rfl
@[simp] theorem State.answering_sinceLow (st : Status) (rs : List Byte) : (s.answering st rs).sinceLow = s.sinceLow := rfl
@[simp] theorem State.answering_rxdLow (st : Status) (rs : List Byte) : (s.answering st rs).rxdLow = s.rxdLow := rfl
@[simp] theorem State.answering_events (st : Status) (rs : List Byte) : (s.answering st rs).events = s.events := rfl
@[simp] theorem State.answering_counters (st : Status) (rs : List Byte) : (s.answering st rs).counters = s.counters := rfl
@[simp] theorem State.answering_portSkips (st : Status) (rs : List Byte) : (s.answering st rs).portSkips = s.portSkips := rfl
@[simp] theorem State.answering_pending (st : Status) (rs : List Byte) : (s.answering st rs).pending = s.pending := rfl

/-! ### withTimer -/

@[simp] theorem State.withTimer_station (m : Timer) : (s.withTimer m).station = s.station := rfl
@[simp] theorem State.withTimer_ownAddr (m : Timer) : (s.withTimer m).ownAddr = s.ownAddr := rfl
@[simp] theorem State.withTimer_descs (m : Timer) : (s.withTimer m).descs = s.descs := rfl
@[simp] theorem State.withTimer_mem (m : Timer) : (s.withTimer m).mem = s.mem := rfl
@[simp] theorem State.withTimer_queues (m : Timer) : (s.withTimer m).queues = s.queues := rfl
@[simp] theorem State.withTimer_tx (m : Timer) : (s.withTimer m).tx = s.tx := rfl
@[simp] theorem State.withTimer_rx (m : Timer) : (s.withTimer m).rx = s.rx := rfl
@[simp] theorem State.withTimer_tallies (m : Timer) : (s.withTimer m).tallies = s.tallies := rfl
@[simp] theorem State.withTimer_cfg (m : Timer) : (s.withTimer m).cfg = s.cfg := rfl
@[simp] theorem State.withTimer_cursor (m : Timer) : (s.withTimer m).cursor = s.cursor := rfl
@[simp] theorem State.withTimer_roster (m : Timer) : (s.withTimer m).roster = s.roster := rfl
@[simp] theorem State.withTimer_line (m : Timer) : (s.withTimer m).line = s.line := rfl
@[simp] theorem State.withTimer_request (m : Timer) : (s.withTimer m).request = s.request := rfl
@[simp] theorem State.withTimer_sinceLow (m : Timer) : (s.withTimer m).sinceLow = s.sinceLow := rfl
@[simp] theorem State.withTimer_rxdLow (m : Timer) : (s.withTimer m).rxdLow = s.rxdLow := rfl
@[simp] theorem State.withTimer_events (m : Timer) : (s.withTimer m).events = s.events := rfl
@[simp] theorem State.withTimer_counters (m : Timer) : (s.withTimer m).counters = s.counters := rfl
@[simp] theorem State.withTimer_answer (m : Timer) : (s.withTimer m).answer = s.answer := rfl
@[simp] theorem State.withTimer_portSkips (m : Timer) : (s.withTimer m).portSkips = s.portSkips := rfl
@[simp] theorem State.withTimer_pending (m : Timer) : (s.withTimer m).pending = s.pending := rfl

/-! ### lowNow -/

@[simp] theorem State.lowNow_station : (s.lowNow).station = s.station := rfl
@[simp] theorem State.lowNow_ownAddr : (s.lowNow).ownAddr = s.ownAddr := rfl
@[simp] theorem State.lowNow_descs : (s.lowNow).descs = s.descs := rfl
@[simp] theorem State.lowNow_mem : (s.lowNow).mem = s.mem := rfl
@[simp] theorem State.lowNow_queues : (s.lowNow).queues = s.queues := rfl
@[simp] theorem State.lowNow_tx : (s.lowNow).tx = s.tx := rfl
@[simp] theorem State.lowNow_rx : (s.lowNow).rx = s.rx := rfl
@[simp] theorem State.lowNow_tallies : (s.lowNow).tallies = s.tallies := rfl
@[simp] theorem State.lowNow_cfg : (s.lowNow).cfg = s.cfg := rfl
@[simp] theorem State.lowNow_cursor : (s.lowNow).cursor = s.cursor := rfl
@[simp] theorem State.lowNow_turn : (s.lowNow).turn = s.turn := rfl
@[simp] theorem State.lowNow_roster : (s.lowNow).roster = s.roster := rfl
@[simp] theorem State.lowNow_line : (s.lowNow).line = s.line := rfl
@[simp] theorem State.lowNow_request : (s.lowNow).request = s.request := rfl
@[simp] theorem State.lowNow_rxdLow : (s.lowNow).rxdLow = s.rxdLow := rfl
@[simp] theorem State.lowNow_events : (s.lowNow).events = s.events := rfl
@[simp] theorem State.lowNow_counters : (s.lowNow).counters = s.counters := rfl
@[simp] theorem State.lowNow_answer : (s.lowNow).answer = s.answer := rfl
@[simp] theorem State.lowNow_portSkips : (s.lowNow).portSkips = s.portSkips := rfl
@[simp] theorem State.lowNow_pending : (s.lowNow).pending = s.pending := rfl

/-! ### lowBefore -/

@[simp] theorem State.lowBefore_station (bs : List Byte) : (s.lowBefore bs).station = s.station := rfl
@[simp] theorem State.lowBefore_ownAddr (bs : List Byte) : (s.lowBefore bs).ownAddr = s.ownAddr := rfl
@[simp] theorem State.lowBefore_descs (bs : List Byte) : (s.lowBefore bs).descs = s.descs := rfl
@[simp] theorem State.lowBefore_mem (bs : List Byte) : (s.lowBefore bs).mem = s.mem := rfl
@[simp] theorem State.lowBefore_queues (bs : List Byte) : (s.lowBefore bs).queues = s.queues := rfl
@[simp] theorem State.lowBefore_tx (bs : List Byte) : (s.lowBefore bs).tx = s.tx := rfl
@[simp] theorem State.lowBefore_rx (bs : List Byte) : (s.lowBefore bs).rx = s.rx := rfl
@[simp] theorem State.lowBefore_tallies (bs : List Byte) : (s.lowBefore bs).tallies = s.tallies := rfl
@[simp] theorem State.lowBefore_cfg (bs : List Byte) : (s.lowBefore bs).cfg = s.cfg := rfl
@[simp] theorem State.lowBefore_cursor (bs : List Byte) : (s.lowBefore bs).cursor = s.cursor := rfl
@[simp] theorem State.lowBefore_turn (bs : List Byte) : (s.lowBefore bs).turn = s.turn := rfl
@[simp] theorem State.lowBefore_roster (bs : List Byte) : (s.lowBefore bs).roster = s.roster := rfl
@[simp] theorem State.lowBefore_line (bs : List Byte) : (s.lowBefore bs).line = s.line := rfl
@[simp] theorem State.lowBefore_request (bs : List Byte) : (s.lowBefore bs).request = s.request := rfl
@[simp] theorem State.lowBefore_rxdLow (bs : List Byte) : (s.lowBefore bs).rxdLow = s.rxdLow := rfl
@[simp] theorem State.lowBefore_events (bs : List Byte) : (s.lowBefore bs).events = s.events := rfl
@[simp] theorem State.lowBefore_counters (bs : List Byte) : (s.lowBefore bs).counters = s.counters := rfl
@[simp] theorem State.lowBefore_answer (bs : List Byte) : (s.lowBefore bs).answer = s.answer := rfl
@[simp] theorem State.lowBefore_portSkips (bs : List Byte) : (s.lowBefore bs).portSkips = s.portSkips := rfl
@[simp] theorem State.lowBefore_pending (bs : List Byte) : (s.lowBefore bs).pending = s.pending := rfl

/-! ### nothingTaken and the host port -/

@[simp] theorem State.nothingTaken_station : s.nothingTaken.station = s.station := rfl
@[simp] theorem State.nothingTaken_ownAddr : s.nothingTaken.ownAddr = s.ownAddr := rfl
@[simp] theorem State.nothingTaken_descs : s.nothingTaken.descs = s.descs := rfl
@[simp] theorem State.nothingTaken_mem : s.nothingTaken.mem = s.mem := rfl
@[simp] theorem State.nothingTaken_queues : s.nothingTaken.queues = s.queues := rfl
@[simp] theorem State.nothingTaken_tx : s.nothingTaken.tx = s.tx := rfl
@[simp] theorem State.nothingTaken_rx : s.nothingTaken.rx = s.rx := rfl
@[simp] theorem State.nothingTaken_tallies : s.nothingTaken.tallies = s.tallies := rfl
@[simp] theorem State.nothingTaken_cfg : s.nothingTaken.cfg = s.cfg := rfl
@[simp] theorem State.nothingTaken_cursor : s.nothingTaken.cursor = s.cursor := rfl
@[simp] theorem State.nothingTaken_turn : s.nothingTaken.turn = s.turn := rfl
@[simp] theorem State.nothingTaken_roster : s.nothingTaken.roster = s.roster := rfl
@[simp] theorem State.nothingTaken_line : s.nothingTaken.line = s.line := rfl
@[simp] theorem State.nothingTaken_request : s.nothingTaken.request = s.request := rfl
@[simp] theorem State.nothingTaken_sinceLow : s.nothingTaken.sinceLow = s.sinceLow := rfl
@[simp] theorem State.nothingTaken_rxdLow : s.nothingTaken.rxdLow = s.rxdLow := rfl
@[simp] theorem State.nothingTaken_events : s.nothingTaken.events = s.events := rfl
@[simp] theorem State.nothingTaken_counters : s.nothingTaken.counters = s.counters := rfl
@[simp] theorem State.nothingTaken_pending : s.nothingTaken.pending = s.pending := rfl
@[simp] theorem State.nothingTaken_answer : s.nothingTaken.answer = [] := rfl
@[simp] theorem State.nothingTaken_portSkips : s.nothingTaken.portSkips = false := rfl

/-- A transaction while the port waits for CS# to rise is not taken, whatever its command (R180). -/
@[simp] theorem State.atPort_skips (act : State) (h : s.portSkips = true) : s.atPort act = s.nothingTaken := by
  simp [State.atPort, h]

/-- A command taken in STARTING (R178, R179). -/
@[simp] theorem State.atPort_starting (act : State) (h : s.portSkips = false) (hs : s.station = .starting) :
    s.atPort act = s.refuse .starting := by
  simp [State.atPort, h, hs]

/-- A command taken in any other station state has its own effect. -/
@[simp] theorem State.atPort_taken (act : State) (h : s.portSkips = false) (hs : s.station ≠ .starting) :
    s.atPort act = act := by
  simp [State.atPort, h, hs]

/-! ### clearTallies -/

@[simp] theorem State.clearTallies_station : (s.clearTallies).station = s.station := rfl
@[simp] theorem State.clearTallies_ownAddr : (s.clearTallies).ownAddr = s.ownAddr := rfl
@[simp] theorem State.clearTallies_descs : (s.clearTallies).descs = s.descs := rfl
@[simp] theorem State.clearTallies_mem : (s.clearTallies).mem = s.mem := rfl
@[simp] theorem State.clearTallies_queues : (s.clearTallies).queues = s.queues := rfl
@[simp] theorem State.clearTallies_tx : (s.clearTallies).tx = s.tx := rfl
@[simp] theorem State.clearTallies_rx : (s.clearTallies).rx = s.rx := rfl
@[simp] theorem State.clearTallies_cfg : (s.clearTallies).cfg = s.cfg := rfl
@[simp] theorem State.clearTallies_cursor : (s.clearTallies).cursor = s.cursor := rfl
@[simp] theorem State.clearTallies_turn : (s.clearTallies).turn = s.turn := rfl
@[simp] theorem State.clearTallies_roster : (s.clearTallies).roster = s.roster := rfl
@[simp] theorem State.clearTallies_line : (s.clearTallies).line = s.line := rfl
@[simp] theorem State.clearTallies_request : (s.clearTallies).request = s.request := rfl
@[simp] theorem State.clearTallies_sinceLow : (s.clearTallies).sinceLow = s.sinceLow := rfl
@[simp] theorem State.clearTallies_rxdLow : (s.clearTallies).rxdLow = s.rxdLow := rfl
@[simp] theorem State.clearTallies_events : (s.clearTallies).events = s.events := rfl
@[simp] theorem State.clearTallies_counters : (s.clearTallies).counters = s.counters := rfl
@[simp] theorem State.clearTallies_answer : (s.clearTallies).answer = s.answer := rfl
@[simp] theorem State.clearTallies_portSkips : (s.clearTallies).portSkips = s.portSkips := rfl
@[simp] theorem State.clearTallies_pending : (s.clearTallies).pending = s.pending := rfl

/-! ## Entries read after an update -/

theorem State.desc_setDesc (d e : DescId) (x : Desc) : (s.setDesc d x).desc e = if d = e then x else s.desc e :=
  look_put s.descs d e x

theorem State.desc_setOwner (d e : DescId) (o : Owner) :
    (s.setOwner d o).desc e = if d = e then { s.desc d with owner := o } else s.desc e :=
  look_put s.descs d e _

theorem State.queue_setQueue (q r : QueueId) (l : List DescId) :
    (s.setQueue q l).queue r = if q = r then l else s.queue r :=
  look_put s.queues q r l

theorem State.txc_setTx (n m : ChanId) (c : TxChan) : (s.setTx n c).txc m = if n = m then c else s.txc m :=
  look_put s.tx n m c

theorem State.rxc_setRx (n m : ChanId) (c : RxChan) : (s.setRx n c).rxc m = if n = m then c else s.rxc m :=
  look_put s.rx n m c

theorem State.rosterOf_setRoster (a b : Station) (e : RosterEntry) :
    (s.setRoster a e).rosterOf b = if a = b then e else s.rosterOf b :=
  look_put s.roster a b e

theorem State.tallyOf_setTally (n m : ChanId) (a b : Station) (v : Option Tally) :
    (s.setTally n a v).tallyOf m b = if n = m ∧ a = b then v else s.tallyOf m b := by
  unfold State.tallyOf State.setTally
  rw [look_put]
  by_cases hn : n = m
  · subst hn; simp [look_put]
  · simp [hn]

theorem State.tallyOf_clearTallyRow (n m : ChanId) (b : Station) :
    (s.clearTallyRow n).tallyOf m b = if n = m then none else s.tallyOf m b := by
  unfold State.tallyOf State.clearTallyRow
  rw [look_put]
  by_cases hn : n = m <;> simp [hn]

@[simp] theorem State.tallyOf_clearTallies (m : ChanId) (b : Station) : s.clearTallies.tallyOf m b = none := by
  simp [State.tallyOf, State.clearTallies]

/-! ## Entries that other updates leave -/

@[simp] theorem State.queue_setDesc_other (d : DescId) (x : Desc) (r : QueueId) : (s.setDesc d x).queue r = s.queue r := rfl
@[simp] theorem State.txc_setDesc_other (d : DescId) (x : Desc) (j : ChanId) : (s.setDesc d x).txc j = s.txc j := rfl
@[simp] theorem State.rxc_setDesc_other (d : DescId) (x : Desc) (j : ChanId) : (s.setDesc d x).rxc j = s.rxc j := rfl
@[simp] theorem State.rosterOf_setDesc_other (d : DescId) (x : Desc) (b : Station) : (s.setDesc d x).rosterOf b = s.rosterOf b := rfl
@[simp] theorem State.tallyOf_setDesc_other (d : DescId) (x : Desc) (j : ChanId) (b : Station) : (s.setDesc d x).tallyOf j b = s.tallyOf j b := rfl
@[simp] theorem State.queue_setOwner_other (d : DescId) (o : Owner) (r : QueueId) : (s.setOwner d o).queue r = s.queue r := rfl
@[simp] theorem State.txc_setOwner_other (d : DescId) (o : Owner) (j : ChanId) : (s.setOwner d o).txc j = s.txc j := rfl
@[simp] theorem State.rxc_setOwner_other (d : DescId) (o : Owner) (j : ChanId) : (s.setOwner d o).rxc j = s.rxc j := rfl
@[simp] theorem State.rosterOf_setOwner_other (d : DescId) (o : Owner) (b : Station) : (s.setOwner d o).rosterOf b = s.rosterOf b := rfl
@[simp] theorem State.tallyOf_setOwner_other (d : DescId) (o : Owner) (j : ChanId) (b : Station) : (s.setOwner d o).tallyOf j b = s.tallyOf j b := rfl
@[simp] theorem State.desc_setQueue_other (q : QueueId) (l : List DescId) (j : DescId) : (s.setQueue q l).desc j = s.desc j := rfl
@[simp] theorem State.txc_setQueue_other (q : QueueId) (l : List DescId) (j : ChanId) : (s.setQueue q l).txc j = s.txc j := rfl
@[simp] theorem State.rxc_setQueue_other (q : QueueId) (l : List DescId) (j : ChanId) : (s.setQueue q l).rxc j = s.rxc j := rfl
@[simp] theorem State.rosterOf_setQueue_other (q : QueueId) (l : List DescId) (b : Station) : (s.setQueue q l).rosterOf b = s.rosterOf b := rfl
@[simp] theorem State.tallyOf_setQueue_other (q : QueueId) (l : List DescId) (j : ChanId) (b : Station) : (s.setQueue q l).tallyOf j b = s.tallyOf j b := rfl
@[simp] theorem State.desc_setTx_other (n : ChanId) (c : TxChan) (j : DescId) : (s.setTx n c).desc j = s.desc j := rfl
@[simp] theorem State.queue_setTx_other (n : ChanId) (c : TxChan) (r : QueueId) : (s.setTx n c).queue r = s.queue r := rfl
@[simp] theorem State.rxc_setTx_other (n : ChanId) (c : TxChan) (j : ChanId) : (s.setTx n c).rxc j = s.rxc j := rfl
@[simp] theorem State.rosterOf_setTx_other (n : ChanId) (c : TxChan) (b : Station) : (s.setTx n c).rosterOf b = s.rosterOf b := rfl
@[simp] theorem State.tallyOf_setTx_other (n : ChanId) (c : TxChan) (j : ChanId) (b : Station) : (s.setTx n c).tallyOf j b = s.tallyOf j b := rfl
@[simp] theorem State.desc_setRx_other (n : ChanId) (c : RxChan) (j : DescId) : (s.setRx n c).desc j = s.desc j := rfl
@[simp] theorem State.queue_setRx_other (n : ChanId) (c : RxChan) (r : QueueId) : (s.setRx n c).queue r = s.queue r := rfl
@[simp] theorem State.txc_setRx_other (n : ChanId) (c : RxChan) (j : ChanId) : (s.setRx n c).txc j = s.txc j := rfl
@[simp] theorem State.rosterOf_setRx_other (n : ChanId) (c : RxChan) (b : Station) : (s.setRx n c).rosterOf b = s.rosterOf b := rfl
@[simp] theorem State.tallyOf_setRx_other (n : ChanId) (c : RxChan) (j : ChanId) (b : Station) : (s.setRx n c).tallyOf j b = s.tallyOf j b := rfl
@[simp] theorem State.desc_setTally_other (n : ChanId) (a : Station) (v : Option Tally) (j : DescId) : (s.setTally n a v).desc j = s.desc j := rfl
@[simp] theorem State.queue_setTally_other (n : ChanId) (a : Station) (v : Option Tally) (r : QueueId) : (s.setTally n a v).queue r = s.queue r := rfl
@[simp] theorem State.txc_setTally_other (n : ChanId) (a : Station) (v : Option Tally) (j : ChanId) : (s.setTally n a v).txc j = s.txc j := rfl
@[simp] theorem State.rxc_setTally_other (n : ChanId) (a : Station) (v : Option Tally) (j : ChanId) : (s.setTally n a v).rxc j = s.rxc j := rfl
@[simp] theorem State.rosterOf_setTally_other (n : ChanId) (a : Station) (v : Option Tally) (b : Station) : (s.setTally n a v).rosterOf b = s.rosterOf b := rfl
@[simp] theorem State.desc_clearTallyRow_other (n : ChanId) (j : DescId) : (s.clearTallyRow n).desc j = s.desc j := rfl
@[simp] theorem State.queue_clearTallyRow_other (n : ChanId) (r : QueueId) : (s.clearTallyRow n).queue r = s.queue r := rfl
@[simp] theorem State.txc_clearTallyRow_other (n : ChanId) (j : ChanId) : (s.clearTallyRow n).txc j = s.txc j := rfl
@[simp] theorem State.rxc_clearTallyRow_other (n : ChanId) (j : ChanId) : (s.clearTallyRow n).rxc j = s.rxc j := rfl
@[simp] theorem State.rosterOf_clearTallyRow_other (n : ChanId) (b : Station) : (s.clearTallyRow n).rosterOf b = s.rosterOf b := rfl
@[simp] theorem State.desc_setRoster_other (a : Station) (e : RosterEntry) (j : DescId) : (s.setRoster a e).desc j = s.desc j := rfl
@[simp] theorem State.queue_setRoster_other (a : Station) (e : RosterEntry) (r : QueueId) : (s.setRoster a e).queue r = s.queue r := rfl
@[simp] theorem State.txc_setRoster_other (a : Station) (e : RosterEntry) (j : ChanId) : (s.setRoster a e).txc j = s.txc j := rfl
@[simp] theorem State.rxc_setRoster_other (a : Station) (e : RosterEntry) (j : ChanId) : (s.setRoster a e).rxc j = s.rxc j := rfl
@[simp] theorem State.tallyOf_setRoster_other (a : Station) (e : RosterEntry) (j : ChanId) (b : Station) : (s.setRoster a e).tallyOf j b = s.tallyOf j b := rfl
@[simp] theorem State.desc_writeBuffer_other (d : DescId) (o : Nat) (bs : List Byte) (j : DescId) : (s.writeBuffer d o bs).desc j = s.desc j := rfl
@[simp] theorem State.queue_writeBuffer_other (d : DescId) (o : Nat) (bs : List Byte) (r : QueueId) : (s.writeBuffer d o bs).queue r = s.queue r := rfl
@[simp] theorem State.txc_writeBuffer_other (d : DescId) (o : Nat) (bs : List Byte) (j : ChanId) : (s.writeBuffer d o bs).txc j = s.txc j := rfl
@[simp] theorem State.rxc_writeBuffer_other (d : DescId) (o : Nat) (bs : List Byte) (j : ChanId) : (s.writeBuffer d o bs).rxc j = s.rxc j := rfl
@[simp] theorem State.rosterOf_writeBuffer_other (d : DescId) (o : Nat) (bs : List Byte) (b : Station) : (s.writeBuffer d o bs).rosterOf b = s.rosterOf b := rfl
@[simp] theorem State.tallyOf_writeBuffer_other (d : DescId) (o : Nat) (bs : List Byte) (j : ChanId) (b : Station) : (s.writeBuffer d o bs).tallyOf j b = s.tallyOf j b := rfl
@[simp] theorem State.desc_raise_other (e : Event) (j : DescId) : (s.raise e).desc j = s.desc j := rfl
@[simp] theorem State.queue_raise_other (e : Event) (r : QueueId) : (s.raise e).queue r = s.queue r := rfl
@[simp] theorem State.txc_raise_other (e : Event) (j : ChanId) : (s.raise e).txc j = s.txc j := rfl
@[simp] theorem State.rxc_raise_other (e : Event) (j : ChanId) : (s.raise e).rxc j = s.rxc j := rfl
@[simp] theorem State.rosterOf_raise_other (e : Event) (b : Station) : (s.raise e).rosterOf b = s.rosterOf b := rfl
@[simp] theorem State.tallyOf_raise_other (e : Event) (j : ChanId) (b : Station) : (s.raise e).tallyOf j b = s.tallyOf j b := rfl
@[simp] theorem State.desc_count_other (c : Counter) (j : DescId) : (s.count c).desc j = s.desc j := rfl
@[simp] theorem State.queue_count_other (c : Counter) (r : QueueId) : (s.count c).queue r = s.queue r := rfl
@[simp] theorem State.txc_count_other (c : Counter) (j : ChanId) : (s.count c).txc j = s.txc j := rfl
@[simp] theorem State.rxc_count_other (c : Counter) (j : ChanId) : (s.count c).rxc j = s.rxc j := rfl
@[simp] theorem State.rosterOf_count_other (c : Counter) (b : Station) : (s.count c).rosterOf b = s.rosterOf b := rfl
@[simp] theorem State.tallyOf_count_other (c : Counter) (j : ChanId) (b : Station) : (s.count c).tallyOf j b = s.tallyOf j b := rfl
@[simp] theorem State.desc_answering_other (st : Status) (rs : List Byte) (j : DescId) : (s.answering st rs).desc j = s.desc j := rfl
@[simp] theorem State.queue_answering_other (st : Status) (rs : List Byte) (r : QueueId) : (s.answering st rs).queue r = s.queue r := rfl
@[simp] theorem State.txc_answering_other (st : Status) (rs : List Byte) (j : ChanId) : (s.answering st rs).txc j = s.txc j := rfl
@[simp] theorem State.rxc_answering_other (st : Status) (rs : List Byte) (j : ChanId) : (s.answering st rs).rxc j = s.rxc j := rfl
@[simp] theorem State.rosterOf_answering_other (st : Status) (rs : List Byte) (b : Station) : (s.answering st rs).rosterOf b = s.rosterOf b := rfl
@[simp] theorem State.tallyOf_answering_other (st : Status) (rs : List Byte) (j : ChanId) (b : Station) : (s.answering st rs).tallyOf j b = s.tallyOf j b := rfl
@[simp] theorem State.desc_withTimer_other (m : Timer) (j : DescId) : (s.withTimer m).desc j = s.desc j := rfl
@[simp] theorem State.queue_withTimer_other (m : Timer) (r : QueueId) : (s.withTimer m).queue r = s.queue r := rfl
@[simp] theorem State.txc_withTimer_other (m : Timer) (j : ChanId) : (s.withTimer m).txc j = s.txc j := rfl
@[simp] theorem State.rxc_withTimer_other (m : Timer) (j : ChanId) : (s.withTimer m).rxc j = s.rxc j := rfl
@[simp] theorem State.rosterOf_withTimer_other (m : Timer) (b : Station) : (s.withTimer m).rosterOf b = s.rosterOf b := rfl
@[simp] theorem State.tallyOf_withTimer_other (m : Timer) (j : ChanId) (b : Station) : (s.withTimer m).tallyOf j b = s.tallyOf j b := rfl
@[simp] theorem State.desc_lowNow_other (j : DescId) : (s.lowNow).desc j = s.desc j := rfl
@[simp] theorem State.queue_lowNow_other (r : QueueId) : (s.lowNow).queue r = s.queue r := rfl
@[simp] theorem State.txc_lowNow_other (j : ChanId) : (s.lowNow).txc j = s.txc j := rfl
@[simp] theorem State.rxc_lowNow_other (j : ChanId) : (s.lowNow).rxc j = s.rxc j := rfl
@[simp] theorem State.rosterOf_lowNow_other (b : Station) : (s.lowNow).rosterOf b = s.rosterOf b := rfl
@[simp] theorem State.tallyOf_lowNow_other (j : ChanId) (b : Station) : (s.lowNow).tallyOf j b = s.tallyOf j b := rfl
@[simp] theorem State.desc_clearTallies_other (j : DescId) : (s.clearTallies).desc j = s.desc j := rfl
@[simp] theorem State.queue_clearTallies_other (r : QueueId) : (s.clearTallies).queue r = s.queue r := rfl
@[simp] theorem State.txc_clearTallies_other (j : ChanId) : (s.clearTallies).txc j = s.txc j := rfl
@[simp] theorem State.rxc_clearTallies_other (j : ChanId) : (s.clearTallies).rxc j = s.rxc j := rfl
@[simp] theorem State.rosterOf_clearTallies_other (b : Station) : (s.clearTallies).rosterOf b = s.rosterOf b := rfl

end Sys2Proof.Machine
end

