-- ==== Sys2Proof/Laws/Queues.lean ====
section
/-! SUPPORT. What the shared moves of descriptors do: ownership changes, chains, queue entries, pool pops, returns and
hand-backs (chapters 1 and 2). -/

namespace Sys2Proof.Machine

open Sys2Proof.Safety

variable (s : State)

/-! ## Ownership changes (section 1.3) -/

/-- Changing owners touches the descriptor table alone. -/
theorem setOwners_frame (ds : List DescId) (o : Owner) :
    s.setOwners ds o = { s with descs := (s.setOwners ds o).descs } := by
  induction ds generalizing s with
  | nil => rfl
  | cons d ds ih => exact ih (s.setOwner d o)

/-- Changing owners changes the ownership state of the listed descriptors and no other field of any. -/
theorem setOwners_desc (ds : List DescId) (o : Owner) (e : DescId) :
    (s.setOwners ds o).desc e = { s.desc e with owner := if e ∈ ds then o else (s.desc e).owner } := by
  induction ds generalizing s with
  | nil => rfl
  | cons d ds ih =>
    rw [State.setOwners, ih, State.desc_setOwner]
    by_cases hd : d = e
    · subst hd; simp
    · have hd' : ¬ e = d := fun h => hd h.symm
      simp [hd, hd']

@[simp] theorem setOwners_queue (ds : List DescId) (o : Owner) (q : QueueId) :
    (s.setOwners ds o).queue q = s.queue q := by
  rw [setOwners_frame]; rfl

/-! ## Chains (R15) -/

/-- What `chain` reads of the descriptor table is the next links alone. -/
theorem chainFrom_congr {d₁ d₂ : Table 256 Desc} (h : ∀ d, (look d₁ d).next = (look d₂ d).next) (fuel : Nat)
    (d : DescId) : chainFrom d₁ fuel d = chainFrom d₂ fuel d := by
  induction fuel generalizing d with
  | zero => rfl
  | succ k ih => simp only [chainFrom, h d]; split <;> simp [ih]

/-- Two states with the same next links have the same chains. -/
theorem chain_congr {t : State} (h : ∀ d, (s.desc d).next = (t.desc d).next) (d : DescId) : s.chain d = t.chain d :=
  chainFrom_congr h _ d

theorem chainFrom_linked {ds : List DescId} (d : DescId) (h : linked s (d :: ds) = true) (fuel : Nat)
    (hf : ds.length < fuel) : chainFrom s.descs fuel d = d :: ds := by
  induction ds generalizing d fuel with
  | nil =>
    obtain ⟨k, rfl⟩ : ∃ k, fuel = k + 1 := ⟨fuel - 1, by omega⟩
    have hn : (look s.descs d).next = none := by simpa [linked, State.desc] using h
    simp [chainFrom, hn]
  | cons e ds ih =>
    obtain ⟨k, rfl⟩ : ∃ k, fuel = k + 1 := ⟨fuel - 1, by simp at hf; omega⟩
    simp only [linked, Bool.and_eq_true, beq_iff_eq] at h
    have hn : (look s.descs d).next = some e := h.1
    simp only [chainFrom, hn]
    rw [ih e h.2 k (by simpa using hf)]

/-- The chain of the head of a chain is that chain. -/
theorem chain_of_isChain {d : DescId} {ds : List DescId} (h : isChain s (d :: ds) = true) : s.chain d = d :: ds := by
  simp only [isChain, Bool.and_eq_true, decide_eq_true_eq] at h
  exact chainFrom_linked s d h.1.1 _ (by simpa using h.2)

/-! ## Queue moves (R8, R10, R13, R26) -/

/-- Pushing a chain changes descriptors and one queue. -/
theorem pushChain_frame (q : QueueId) (d : DescId) :
    s.pushChain q d = { s with descs := (s.pushChain q d).descs, queues := (s.pushChain q d).queues } := by
  simp only [State.pushChain]
  rw [setOwners_frame]
  rfl

/-- The pushed head is the newest entry of its queue; every other queue is as before. -/
theorem pushChain_queue (q r : QueueId) (d : DescId) :
    (s.pushChain q d).queue r = if q = r then s.queue q ++ [d] else s.queue r := by
  simp only [State.pushChain, State.queue_setQueue, State.queue_setOwner_other, setOwners_queue]

/-- The pushed head is QUEUED, its members LINKED, and nothing else of any descriptor changes. -/
theorem pushChain_desc (q : QueueId) (d e : DescId) :
    (s.pushChain q d).desc e =
      { s.desc e with
        owner := if e = d then .queued q else if e ∈ (s.chain d).tail then .linked else (s.desc e).owner } := by
  simp only [State.pushChain, State.desc_setQueue_other, State.desc_setOwner, setOwners_desc]
  by_cases h : d = e
  · subst h; simp
  · have h' : ¬ e = d := fun x => h x.symm
    simp [h, h']

/-- A pool pop finds the pool empty, or takes the oldest entry's head with next NONE and leaves the rest of its chain
as the pool's newest entry (R11, R33). -/
theorem poolPop_cases (q : QueueId) :
    (s.poolPop q = none ∧ s.queue q = [])
    ∨ ∃ h rest t, s.poolPop q = some (h, t) ∧ s.queue q = h :: rest
        ∧ t = { s with descs := t.descs, queues := t.queues }
        ∧ (∀ r, t.queue r =
            if q = r then (match (s.desc h).next with | none => rest | some e => rest ++ [e]) else s.queue r)
        ∧ t.desc h = { s.desc h with
            next := none, owner := if (s.desc h).next = some h then .queued q else (s.desc h).owner }
        ∧ ∀ e, e ≠ h → t.desc e =
            if (s.desc h).next = some e then { s.desc e with owner := .queued q } else s.desc e := by
  unfold State.poolPop
  cases hq : s.queue q with
  | nil => exact .inl ⟨rfl, rfl⟩
  | cons h rest =>
    refine .inr ⟨h, rest, ?_⟩
    cases hn : (s.desc h).next with
    | none =>
      refine ⟨(s.setDesc h { s.desc h with next := none }).setQueue q rest, by simp [hn], rfl, rfl, fun r => ?_, ?_,
        fun e he => ?_⟩
      · simp [State.queue_setQueue]
      · simp [State.desc_setDesc]
      · have he' : ¬ h = e := fun x => he x.symm
        simp [State.desc_setDesc, he']
    | some x =>
      refine ⟨((s.setDesc h { s.desc h with next := none }).setOwner x (.queued q)).setQueue q (rest ++ [x]), by
        simp [hn], rfl, rfl, fun r => ?_, ?_, fun e he => ?_⟩
      · simp [State.queue_setQueue]
      · by_cases hx : x = h <;> simp [State.desc_setOwner, State.desc_setDesc, hx]
      · have he' : ¬ h = e := fun y => he y.symm
        by_cases hx : x = e
        · subst hx; simp [State.desc_setOwner, State.desc_setDesc, he']
        · simp [State.desc_setOwner, State.desc_setDesc, he', hx]

/-- A descriptor returned to a pool: fill 0, next NONE, an entry of its own at the tail (R13, R34). -/
theorem returnToPool_desc (q : QueueId) (d e : DescId) :
    (s.returnToPool q d).desc e =
      if d = e then { s.desc d with fill := 0, next := none, owner := .queued q } else s.desc e := by
  simp [State.returnToPool, State.desc_setDesc]

theorem returnToPool_queue (q r : QueueId) (d : DescId) :
    (s.returnToPool q d).queue r = if q = r then s.queue q ++ [d] else s.queue r := by
  simp [State.returnToPool, State.queue_setQueue]

theorem returnToPool_frame (q : QueueId) (d : DescId) :
    s.returnToPool q d = { s with descs := (s.returnToPool q d).descs, queues := (s.returnToPool q d).queues } := rfl

theorem returnAll_frame (q : QueueId) (ds : List DescId) :
    s.returnAll q ds = { s with descs := (s.returnAll q ds).descs, queues := (s.returnAll q ds).queues } := by
  induction ds generalizing s with
  | nil => rfl
  | cons d ds ih => exact ih (s.returnToPool q d)

/-- Several descriptors returned to a pool join its tail in order. -/
theorem returnAll_queue (q r : QueueId) (ds : List DescId) :
    (s.returnAll q ds).queue r = if q = r then s.queue q ++ ds else s.queue r := by
  induction ds generalizing s with
  | nil => by_cases h : q = r <;> simp [State.returnAll, h]
  | cons d ds ih =>
    rw [State.returnAll, ih, returnToPool_queue, returnToPool_queue]
    by_cases h : q = r <;> simp [h]

theorem returnAll_desc (q : QueueId) (ds : List DescId) (e : DescId) :
    (s.returnAll q ds).desc e =
      if e ∈ ds then { s.desc e with fill := 0, next := none, owner := .queued q } else s.desc e := by
  induction ds generalizing s with
  | nil => rfl
  | cons d ds ih =>
    rw [State.returnAll, ih, returnToPool_desc]
    by_cases h : d = e
    · subst h; simp
    · have h' : ¬ e = d := fun x => h x.symm
      simp [h, h']

/-- The head handed back gets status, peer and channel and is QUEUED at the return queue it names, its members are
LINKED, and nothing else of any descriptor changes (R5, R6, R10). -/
theorem handBack_desc (h : DescId) (st : DescStatus) (peer : Station) (n : ChanId) (e : DescId) :
    (s.handBack h st peer n).desc e =
      if e = h then
        { s.desc h with status := st, peer := peer, channel := n, owner := .queued (s.desc h).returnQueue }
      else { s.desc e with owner := if e ∈ (s.chain h).tail then .linked else (s.desc e).owner } := by
  have hc : (s.setDesc h { s.desc h with status := st, peer := peer, channel := n }).chain h = s.chain h := by
    refine chain_congr _ (fun d => ?_) h
    rw [State.desc_setDesc]
    by_cases hd : h = d
    · subst hd; simp
    · simp [hd]
  unfold State.handBack
  rw [pushChain_desc, hc]
  by_cases he : e = h
  · subst he; simp [State.desc_setDesc]
  · have he' : ¬ h = e := fun x => he x.symm
    simp [State.desc_setDesc, he, he']

theorem handBack_queue (h : DescId) (st : DescStatus) (peer : Station) (n : ChanId) (r : QueueId) :
    (s.handBack h st peer n).queue r =
      if (s.desc h).returnQueue = r then s.queue r ++ [h] else s.queue r := by
  unfold State.handBack
  rw [pushChain_queue]
  by_cases hr : (s.desc h).returnQueue = r <;> simp [State.desc_setDesc, hr]

theorem handBack_frame (h : DescId) (st : DescStatus) (peer : Station) (n : ChanId) :
    s.handBack h st peer n =
      { s with descs := (s.handBack h st peer n).descs, queues := (s.handBack h st peer n).queues } := by
  unfold State.handBack
  rw [pushChain_frame]
  rfl

/-- A flush of no entries changes nothing; one of `k + 1` hands the oldest back and goes on (R146). -/
theorem flush_succ (q : QueueId) (st : DescStatus) (peer : Station) (n : ChanId) (k : Nat) (h : DescId)
    (rest : List DescId) (hq : s.queue q = h :: rest) :
    s.flush q st peer n (k + 1) = ((s.setQueue q rest).handBack h st peer n).flush q st peer n k := by
  simp [State.flush, State.handBackOldest, hq]

end Sys2Proof.Machine
end

