-- ==== Sys2Proof/Laws/Engines.lean ====
section
/-! SUPPORT. What the shared treatments of the engines do: channel by channel in TX0 to TX7 and RX0 to RX7 order, the
end of a message, the marker, the end of an assembly (chapters 5 to 7). -/

namespace Sys2Proof.Machine

open Sys2Proof.Safety

theorem mem_allChans (n : ChanId) : n ∈ allChans := by revert n; decide

theorem allChans_nodup : allChans.Nodup := by decide

theorem all_of_allChans {p : ChanId → Bool} (h : allChans.all p = true) (n : ChanId) : p n = true :=
  List.all_eq_true.mp h n (mem_allChans n)

/-! ## One treatment at each channel -/

/-- A treatment that replaces each receive channel's context by a function of that context alone. -/
theorem foldl_setRx (g : RxChan → RxChan) (f : State → ChanId → State) {l : List ChanId} (hl : l.Nodup) (s : State)
    (h : ∀ t n, n ∈ l → t.rxc n = s.rxc n → f t n = t.setRx n (g (t.rxc n))) :
    l.foldl f s = { s with rx := (l.foldl f s).rx }
    ∧ ∀ m, (l.foldl f s).rxc m = if m ∈ l then g (s.rxc m) else s.rxc m := by
  induction l generalizing s with
  | nil => exact ⟨rfl, fun m => by simp⟩
  | cons n l ih =>
    obtain ⟨hn, hl'⟩ := List.nodup_cons.mp hl
    have h1 : f s n = s.setRx n (g (s.rxc n)) := h s n (by simp) rfl
    have h2 : ∀ t k, k ∈ l → t.rxc k = (f s n).rxc k → f t k = t.setRx k (g (t.rxc k)) := by
      intro t k hk ht
      refine h t k (by simp [hk]) ?_
      have : n ≠ k := fun e => hn (e ▸ hk)
      rw [ht, h1, State.rxc_setRx, if_neg this]
    obtain ⟨e1, e2⟩ := ih hl' (f s n) h2
    refine ⟨?_, fun m => ?_⟩
    · rw [List.foldl_cons, e1, h1]; rfl
    · rw [List.foldl_cons, e2 m, h1, State.rxc_setRx]
      by_cases hm : m = n
      · subst hm; simp [hn]
      · have hm' : ¬ n = m := fun e => hm e.symm
        simp [hm, hm']

/-- A treatment that replaces each transmit channel's context by a function of that context alone. -/
theorem foldl_setTx (g : TxChan → TxChan) (f : State → ChanId → State) {l : List ChanId} (hl : l.Nodup) (s : State)
    (h : ∀ t n, n ∈ l → t.txc n = s.txc n → f t n = t.setTx n (g (t.txc n))) :
    l.foldl f s = { s with tx := (l.foldl f s).tx }
    ∧ ∀ m, (l.foldl f s).txc m = if m ∈ l then g (s.txc m) else s.txc m := by
  induction l generalizing s with
  | nil => exact ⟨rfl, fun m => by simp⟩
  | cons n l ih =>
    obtain ⟨hn, hl'⟩ := List.nodup_cons.mp hl
    have h1 : f s n = s.setTx n (g (s.txc n)) := h s n (by simp) rfl
    have h2 : ∀ t k, k ∈ l → t.txc k = (f s n).txc k → f t k = t.setTx k (g (t.txc k)) := by
      intro t k hk ht
      refine h t k (by simp [hk]) ?_
      have : n ≠ k := fun e => hn (e ▸ hk)
      rw [ht, h1, State.txc_setTx, if_neg this]
    obtain ⟨e1, e2⟩ := ih hl' (f s n) h2
    refine ⟨?_, fun m => ?_⟩
    · rw [List.foldl_cons, e1, h1]; rfl
    · rw [List.foldl_cons, e2 m, h1, State.txc_setTx]
      by_cases hm : m = n
      · subst hm; simp [hn]
      · have hm' : ¬ n = m := fun e => hm e.symm
        simp [hm, hm']

/-- Replacing an entry by itself changes nothing. -/
theorem setRx_self (s : State) (n : ChanId) : s.setRx n (s.rxc n) = s := by
  have : put s.rx n (s.rxc n) = s.rx := table_ext fun i => by
    rw [look_put]
    by_cases h : n = i
    · subst h; simp [State.rxc]
    · simp [h]
  simp [State.setRx, this]

theorem setTx_self (s : State) (n : ChanId) : s.setTx n (s.txc n) = s := by
  have : put s.tx n (s.txc n) = s.tx := table_ext fun i => by
    rw [look_put]
    by_cases h : n = i
    · subst h; simp [State.txc]
    · simp [h]
  simp [State.setTx, this]

/-- A turn end of station `a` at the receive engine when no patience runs out: each busy channel of that source counts,
and nothing else changes (R129). -/
theorem countPatience_lasts (s : State) (a : Station) (h : patienceLasts s a = true) :
    s.countPatience a = { s with rx := (s.countPatience a).rx }
    ∧ ∀ n, (s.countPatience a).rxc n = afterTurnOf a (s.rxc n) := by
  have key := foldl_setRx (afterTurnOf a) (fun t n => t.patienceOf a n) allChans_nodup s (by
    intro t n _ ht
    have hn := all_of_allChans h n
    rw [← ht] at hn
    by_cases hb : (t.rxc n).busyFrom a = true
    · cases hd : (t.rxc n).defn with
      | none => simp [hb, hd] at hn
      | some df =>
        by_cases hp : (t.rxc n).progress = true
        · simp [State.patienceOf, hd, hb, hp, afterTurnOf]
        · have hi : (t.rxc n).idle + 1 < df.patience := by simpa [hb, hd, hp] using hn
          have hi' : ¬ df.patience ≤ (t.rxc n).idle + 1 := by omega
          simp [State.patienceOf, hd, hb, hp, afterTurnOf, State.rxc_setRx, hi']
    · have hb' : (t.rxc n).busyFrom a = false := by simpa using hb
      cases hd : (t.rxc n).defn <;> simp [State.patienceOf, hd, hb', afterTurnOf, setRx_self])
  exact ⟨key.1, fun n => by rw [State.countPatience, key.2 n, if_pos (mem_allChans n)]⟩

/-- An entry to OFFLINE with no channel busy only clears idle turns and progress (R131, R136). -/
theorem rxOffline_noneBusy (s : State) (h : noneBusy s = true) :
    s.rxOffline = { s with rx := s.rxOffline.rx }
    ∧ ∀ n, s.rxOffline.rxc n = { s.rxc n with idle := 0, progress := false } := by
  have key := foldl_setRx (fun c => { c with idle := 0, progress := false }) State.chanOffline allChans_nodup s (by
    intro t n _ ht
    have hn : (t.rxc n).busy = false := by rw [ht]; simpa using all_of_allChans h n
    simp [State.chanOffline, State.abandonIfBusy, hn])
  exact ⟨key.1, fun n => by rw [State.rxOffline, key.2 n, if_pos (mem_allChans n)]⟩

/-- The last of two replacements of one transmit channel's context stands. -/
theorem setTx_setTx (s : State) (n : ChanId) (c d : TxChan) : (s.setTx n c).setTx n d = s.setTx n d := by
  have : put (put s.tx n c) n d = put s.tx n d := table_ext fun i => by
    simp only [look_put]
    by_cases h : n = i
    · simp [h]
    · simp [h]
  simp [State.setTx, this]

/-- An exit from ONLINE with no message in doubt rewinds the messages in hand and clears the absence counts (R105). -/
theorem interrupt_nothingInDoubt (s : State) (h : nothingInDoubt s = true) :
    s.interrupt = { s with tx := s.interrupt.tx } ∧ ∀ n, s.interrupt.txc n = afterExit (s.txc n) := by
  have key := foldl_setTx afterExit State.interruptChan allChans_nodup s (by
    intro t n _ ht
    have hn : (t.txc n).doubt = false := by rw [ht]; simpa using all_of_allChans h n
    cases hd : (t.txc n).defn with
    | none =>
      cases hm : (t.txc n).msg <;> simp [State.interruptChan, hd, afterExit, setTx_self]
    | some df =>
      cases hm : (t.txc n).msg with
      | none => simp [State.interruptChan, hd, hm, afterExit, State.txc_setTx]
      | some m =>
        simp only [State.interruptChan, hd, afterExit, hm, State.txc_setTx, if_true, Option.isSome_some, hn,
          Bool.false_eq_true, if_false, setTx_setTx, TxChan.rewound])
  exact ⟨key.1, fun n => by rw [State.interrupt, key.2 n, if_pos (mem_allChans n)]⟩

/-! ## A station heard (R80, R104) -/

/-- A roster change out of ABSENT at the transmit engine, all it does (R104). -/
theorem txReturned_spec (s : State) (a : Station) :
    s.txReturned a = { s with tx := (s.txReturned a).tx }
    ∧ ∀ n, (s.txReturned a).txc n =
        if (s.txc n).defn.any (fun df => df.station == a) = true then { s.txc n with absence := 0 } else s.txc n := by
  obtain ⟨k1, k2⟩ := foldl_setTx
    (fun c => if c.defn.any (fun df => df.station == a) = true then { c with absence := 0 } else c)
    (fun s n =>
      match (s.txc n).defn with
      | some df => if df.station = a then s.setTx n { s.txc n with absence := 0 } else s
      | none => s) allChans_nodup s (by
      intro t n _ _
      cases hd : (t.txc n).defn with
      | none => simp [setTx_self]
      | some df => by_cases he : df.station = a <;> simp [hd, he, setTx_self])
  exact ⟨k1, fun n => (k2 n).trans (if_pos (mem_allChans n))⟩

/-- What a valid frame of a station does to the roster, all of it (R80, R104). -/
theorem heardFrom_spec (s : State) (a : Station) : SourceHeard a s (s.heardFrom a) := by
  unfold State.heardFrom
  by_cases ho : a = s.ownAddr
  · rw [if_pos ho]
    exact ⟨rfl, fun b => by simp [rosterAfter, ho], fun n => by simp [afterHeard, ho]⟩
  · rw [if_neg ho]
    have hb : ∀ b, (s.setRoster a { state := .present, misses := 0 }).rosterOf b = rosterAfter s a b := fun b => by
      rw [State.rosterOf_setRoster, rosterAfter]
      by_cases h : b = a
      · subst h; simp [ho, heard]
      · have h' : ¬ a = b := fun e => h e.symm
        simp [h, h']
    obtain ⟨k1, k2⟩ := txReturned_spec (s.setRoster a { state := .present, misses := 0 }) a
    by_cases hp : s.isAbsent a = true
    · simp only [hp, if_true]
      have hp' : (s.rosterOf a).state = .absent := by simpa [State.isAbsent] using hp
      have k3 : ∀ n, (s.setRoster a { state := .present, misses := 0 }).txc n = s.txc n := fun _ => rfl
      generalize (s.setRoster a { state := .present, misses := 0 }).txReturned a = u at *
      refine ⟨?_, fun b => ?_, fun n => ?_⟩
      · rw [k1]; rfl
      · rw [← hb b, k1]; rfl
      · rw [k2, k3, afterHeard]
        simp [ho, hp']
    · have hp' : ¬ (s.rosterOf a).state = .absent := by simpa [State.isAbsent] using hp
      simp only [hp]
      exact ⟨rfl, hb, fun n => by simp [afterHeard, hp']⟩

/-! ## The end of a message (R94, R99) -/

/-- Ownership changes do not look at the transmit channels. -/
theorem setOwners_setTx (s : State) (n : ChanId) (c : TxChan) (ds : List DescId) (o : Owner) :
    (s.setTx n c).setOwners ds o = (s.setOwners ds o).setTx n c := by
  induction ds generalizing s with
  | nil => rfl
  | cons d ds ih => exact ih (s.setOwner d o)

/-- Handing a message back does not look at the transmit channels. -/
theorem handBack_setTx (s : State) (n : ChanId) (c : TxChan) (h : DescId) (st : DescStatus) (peer : Station)
    (k : ChanId) : (s.setTx n c).handBack h st peer k = (s.handBack h st peer k).setTx n c := by
  have e : (s.setTx n c).setDesc h { (s.setTx n c).desc h with status := st, peer := peer, channel := k }
      = (s.setDesc h { s.desc h with status := st, peer := peer, channel := k }).setTx n c := rfl
  simp only [State.handBack, e]
  generalize s.setDesc h { s.desc h with status := st, peer := peer, channel := k } = t
  have e' : ((t.setTx n c).chain h) = t.chain h := rfl
  have e2 : ((t.setTx n c).desc h) = t.desc h := rfl
  simp only [State.pushChain, e', e2, setOwners_setTx]
  rfl

/-- A failed message is handed back and its channel is an ended one whose tally has advanced when doubt was set. -/
theorem failMessage_eq (s : State) (n : ChanId) (st : DescStatus) (df : TxDef) (h : DescId)
    (hd : (s.txc n).defn = some df) (hm : (s.txc n).msg = some h) :
    s.failMessage n st = (s.handBack h st df.station n).setTx n
      (({ s.txc n with tally := if (s.txc n).doubt then (s.txc n).tally + 1 else (s.txc n).tally } : TxChan).ended
        st) := by
  by_cases hb : (s.txc n).doubt = true
  · simp only [State.failMessage, hm, hb, Option.isSome_some, Bool.and_self, if_true, State.endMessage,
      State.advanceTally, State.txc_setTx, hd, handBack_setTx, setTx_setTx]
  · have hb' : (s.txc n).doubt = false := by simpa using hb
    have e : (if (s.txc n).doubt = true then (s.txc n).tally + 1 else (s.txc n).tally) = (s.txc n).tally := by
      rw [hb']; rfl
    have e2 : s.failMessage n st = s.endMessage n st := by simp [State.failMessage, hb']
    have e3 : s.endMessage n st = (s.handBack h st df.station n).setTx n ((s.txc n).ended st) := by
      simp only [State.endMessage, hd, hm]
    rw [e2, e3, e]

/-- No message in hand: a failure changes nothing. -/
theorem failMessage_none (s : State) (n : ChanId) (st : DescStatus) (hm : (s.txc n).msg = none) :
    s.failMessage n st = s := by
  cases hd : (s.txc n).defn <;> simp [State.failMessage, State.endMessage, hm, hd]

/-! ## The end of an assembly (R13, R128) -/

/-- A partial's return changes descriptors and queues alone. -/
theorem returnPartial_frame (s : State) (n : ChanId) :
    s.returnPartial n = { s with descs := (s.returnPartial n).descs, queues := (s.returnPartial n).queues } := by
  unfold State.returnPartial
  split
  · rw [returnAll_frame]; rfl
  · rfl

/-- An abandonment changes descriptors, queues, its channel and the ABANDON event alone. -/
theorem abandonTo_frame (s : State) (n : ChanId) (st : RxState) :
    s.abandonTo n st = { s with
      descs := (s.abandonTo n st).descs, queues := (s.abandonTo n st).queues, rx := (s.abandonTo n st).rx,
      events := { s.events with abandon := true } } := by
  unfold State.abandonTo
  rw [returnPartial_frame]
  rfl

/-- The channel after an abandonment (R128, R135). -/
theorem abandonTo_rxc (s : State) (n m : ChanId) (st : RxState) :
    (s.abandonTo n st).rxc m =
      if n = m then
        { (s.rxc n).atRest st with abandons := saturate Config.channelCounterLimit (s.rxc n).abandons }
      else s.rxc m := by
  unfold State.abandonTo
  rw [returnPartial_frame]
  simp only [State.rxc_raise_other, State.rxc_setRx]
  rfl

/-! ## The marker (R147, R153) -/

/-- A marker's push changes descriptors and queues, or sets NO_MARKER on an empty pool. -/
theorem pushMarker_cases (s : State) (target : QueueId) (peer : Station) (n : ChanId) (total : Nat) :
    (s.queue s.cfg.markerPool = [] ∧ s.pushMarker target peer n total = s.raise .noMarker)
    ∨ (s.queue s.cfg.markerPool ≠ [] ∧ s.pushMarker target peer n total =
        { s with descs := (s.pushMarker target peer n total).descs,
                 queues := (s.pushMarker target peer n total).queues }) := by
  unfold State.pushMarker
  rcases poolPop_cases s s.cfg.markerPool with ⟨hp, hq⟩ | ⟨h, rest, t, hp, hq, ht, _⟩
  · exact .inl ⟨hq, by simp [hp]⟩
  · refine .inr ⟨by simp [hq], ?_⟩
    simp only [hp]
    rw [ht]
    rfl

end Sys2Proof.Machine
end

