-- ==== Sys2Proof/Laws/Endings.lean ====
section
/-! SUPPORT. What the treatments of every channel do when they end messages and assemblies: the exit from ONLINE (R105), a
station's change to ABSENT (R102, R130), the entry to OFFLINE (R131) and patience at a turn end (R129). -/

namespace Sys2Proof.Machine

open Sys2Proof.Safety

/-! ## One treatment at each channel, each with descriptors of its own -/

/-- What one channel's treatment does, seen from the whole list: it appends `add n` to the queues, rewrites the
descriptors of `own n`, replaces the channel's contexts, and leaves everything else it is asked about. -/
structure Ends (f : State → ChanId → State) (own : ChanId → List DescId) (add : ChanId → QueueId → List DescId)
    (after : ChanId → DescId → Desc) (tx : TxChan → TxChan) (rx : RxChan → RxChan) (t : State) (n : ChanId) : Prop where
  queue : ∀ q, (f t n).queue q = t.queue q ++ add n q
  desc : ∀ e, (f t n).desc e = if e ∈ own n then after n e else t.desc e
  txc : ∀ m, (f t n).txc m = if n = m then tx (t.txc m) else t.txc m
  rxc : ∀ m, (f t n).rxc m = if n = m then rx (t.rxc m) else t.rxc m

/-- Such treatments one after the other: the additions join the queues in channel order and each descriptor is rewritten by
the one channel that has it. -/
theorem foldl_ends {f : State → ChanId → State} {own : ChanId → List DescId} {add : ChanId → QueueId → List DescId}
    {after : ChanId → DescId → Desc} {tx : TxChan → TxChan} {rx : RxChan → RxChan} {l : List ChanId} (hl : l.Nodup)
    (hd : (l.flatMap own).Nodup) (s : State)
    (h : ∀ t n, n ∈ l → t.txc n = s.txc n → t.rxc n = s.rxc n → (∀ e ∈ own n, t.desc e = s.desc e) →
      Ends f own add after tx rx t n) :
    (∀ q, (l.foldl f s).queue q = s.queue q ++ l.flatMap fun n => add n q)
    ∧ (∀ e, (l.foldl f s).desc e =
        match l.find? fun n => (own n).contains e with
        | some n => after n e
        | none => s.desc e)
    ∧ (∀ m, (l.foldl f s).txc m = if m ∈ l then tx (s.txc m) else s.txc m)
    ∧ ∀ m, (l.foldl f s).rxc m = if m ∈ l then rx (s.rxc m) else s.rxc m := by
  induction l generalizing s with
  | nil => simp
  | cons n l ih =>
    obtain ⟨hn, hl'⟩ := List.nodup_cons.mp hl
    rw [List.flatMap_cons, List.nodup_append] at hd
    have k := h s n (by simp) rfl rfl (fun _ _ => rfl)
    have apart : ∀ m ∈ l, ∀ e ∈ own m, e ∉ own n := fun m hm e he hen =>
      hd.2.2 e hen e (List.mem_flatMap.mpr ⟨m, hm, he⟩) rfl
    have ne : ∀ m ∈ l, ¬ n = m := fun m hm e => hn (e ▸ hm)
    obtain ⟨i1, i2, i3, i4⟩ := ih hl' hd.2.1 (f s n) (fun t m hm ht hr he =>
      h t m (by simp [hm]) (by rw [ht, k.txc, if_neg (ne m hm)]) (by rw [hr, k.rxc, if_neg (ne m hm)])
        (fun e hem => by rw [he e hem, k.desc, if_neg (apart m hm e hem)]))
    refine ⟨fun q => ?_, fun e => ?_, fun m => ?_, fun m => ?_⟩
    · rw [List.foldl_cons, i1, k.queue, List.flatMap_cons, List.append_assoc]
    · rw [List.foldl_cons, i2, k.desc]
      by_cases he : e ∈ own n
      · have hno : l.find? (fun m => (own m).contains e) = none := by
          rw [List.find?_eq_none]
          intro m hm hc
          exact apart m hm e (by simpa using hc) he
        have hyes : (own n).contains e = true := by simpa using he
        simp only [hno, List.find?_cons, hyes, he, if_true]
      · have hnot : (own n).contains e = false := by simpa using he
        simp only [List.find?_cons, hnot, he, if_false]
    · rw [List.foldl_cons, i3, k.txc]
      by_cases hm : m = n
      · subst hm; simp [hn]
      · have hm' : ¬ n = m := fun e => hm e.symm
        simp [hm, hm']
    · rw [List.foldl_cons, i4, k.rxc]
      by_cases hm : m = n
      · subst hm; simp [hn]
      · have hm' : ¬ n = m := fun e => hm e.symm
        simp [hm, hm']

/-- Chains are read from the next links of their own members. -/
theorem linked_congr {s t : State} {ds : List DescId} (h : ∀ e ∈ ds, t.desc e = s.desc e) :
    linked t ds = linked s ds := by
  induction ds with
  | nil => rfl
  | cons d ds ih =>
    have hd := h d (by simp)
    cases ds with
    | nil => simp [linked, hd]
    | cons e ds => simp only [linked, hd, ih (fun x hx => h x (by simp [hx]))]

theorem isChain_congr {s t : State} {ds : List DescId} (h : ∀ e ∈ ds, t.desc e = s.desc e) :
    isChain t ds = isChain s ds := by
  simp only [isChain, linked_congr h]

/-! ## Partials (R13, R128, R131) -/

/-- A partial's return: its descriptors join their pools in chain order, the head first (R13, R34). -/
theorem returnPartial_spec (s : State) (n : ChanId) (df : RxDef) (p : Assembly) (bs : List DescId)
    (hd : (s.rxc n).defn = some df) (hp : (s.rxc n).part = some p) (hc : isChain s (p.head :: bs) = true) :
    (∀ q, (s.returnPartial n).queue q = s.queue q ++ partialTo df (p.head :: bs) q)
    ∧ ∀ e, (s.returnPartial n).desc e = partialDesc s df (p.head :: bs) e := by
  have hnd : p.head ∉ bs := by
    simp only [isChain, Bool.and_eq_true, decide_eq_true_eq] at hc
    exact (List.nodup_cons.mp hc.1.2).1
  have hch := chain_of_isChain s hc
  refine ⟨fun q => ?_, fun e => ?_⟩
  · simp only [State.returnPartial, hd, hp, hch, List.tail_cons, returnAll_queue, returnToPool_queue, partialTo]
    by_cases h1 : q = df.bodyPool <;> by_cases h2 : q = df.headPool
    all_goals
      have a1 : (df.bodyPool = q) = (q = df.bodyPool) := propext eq_comm
      have a2 : (df.headPool = q) = (q = df.headPool) := propext eq_comm
      simp only [a1, a2]
      simp_all
  · simp only [State.returnPartial, hd, hp, hch, List.tail_cons, returnAll_desc, returnToPool_desc, partialDesc,
      List.head?_cons, Option.some.injEq]
    by_cases h1 : p.head = e
    · subst h1; simp [hnd]
    · have h1' : ¬ e = p.head := fun x => h1 x.symm
      by_cases h2 : e ∈ bs <;> simp [h1, h1', h2]

/-- No partial: nothing is returned. -/
theorem returnPartial_none (s : State) (n : ChanId) (h : (s.rxc n).defn = none ∨ (s.rxc n).part = none) :
    s.returnPartial n = s := by
  unfold State.returnPartial
  rcases h with h | h
  · rw [h]
  · rw [h]; cases (s.rxc n).defn <;> rfl

/-- The partial of a channel, or nothing, as `partialAt` names it: what its return adds and rewrites. -/
theorem returnPartial_at (s : State) (n : ChanId) (ends : RxChan → Bool) (l : List DescId)
    (he : ends (s.rxc n) = true) (h : partialAt s ends n l = true) :
    (∀ q, (s.returnPartial n).queue q = s.queue q ++
      match (s.rxc n).defn with
      | some df => partialTo df l q
      | none => [])
    ∧ ∀ e, (s.returnPartial n).desc e =
      match (s.rxc n).defn with
      | some df => partialDesc s df l e
      | none => s.desc e := by
  unfold partialAt at h
  cases hd : (s.rxc n).defn with
  | none =>
    rw [returnPartial_none s n (.inl hd)]
    exact ⟨fun q => by simp, fun e => rfl⟩
  | some df =>
    cases hp : (s.rxc n).part with
    | none =>
      have hl : l = [] := by simpa [hd, hp, he] using h
      rw [returnPartial_none s n (.inr hp), hl]
      exact ⟨fun q => by simp [partialTo], fun e => by simp [partialDesc]⟩
    | some p =>
      have hl : l.head? = some p.head ∧ isChain s l = true := by simpa [hd, hp, he] using h
      cases l with
      | nil => simp at hl
      | cons x bs =>
        have hx : x = p.head := by simpa using hl.1
        subst hx
        exact returnPartial_spec s n df p bs hd hp hl.2

/-- An abandonment's queues and descriptors are those of the partial's return (R128). -/
theorem abandonTo_returns (s : State) (n : ChanId) (st : RxState) :
    (∀ q, (s.abandonTo n st).queue q = (s.returnPartial n).queue q)
    ∧ ∀ e, (s.abandonTo n st).desc e = (s.returnPartial n).desc e := ⟨fun _ => rfl, fun _ => rfl⟩

theorem saturate_eq (c : Nat) : saturate Config.channelCounterLimit c = min (c + 1) 255 := by
  unfold saturate
  split <;> simp only [Config.channelCounterLimit] at * <;> omega

/-- The context an abandonment leaves (R128, R135). -/
theorem atRest_abandoned (c : RxChan) :
    { c.atRest .idle with abandons := saturate Config.channelCounterLimit c.abandons } = afterAbandon c := by
  rw [saturate_eq c.abandons]
  rfl

/-- What a partial's end rewrites does not depend on the other channels' descriptors. -/
theorem partialDesc_congr {s t : State} (df : RxDef) (l : List DescId) (e : DescId) (h : t.desc e = s.desc e) :
    partialDesc t df l e = partialDesc s df l e := by simp [partialDesc, h]

theorem partialDesc_not_mem (s : State) (df : RxDef) (l : List DescId) (e : DescId) (h : e ∉ l) :
    partialDesc s df l e = s.desc e := by
  have : ¬ l.head? = some e := fun x => h (List.mem_of_head? x)
  simp [partialDesc, h, this]

theorem partialAt_congr {s t : State} {ends : RxChan → Bool} {n : ChanId} {l : List DescId}
    (hr : t.rxc n = s.rxc n) (h : ∀ e ∈ l, t.desc e = s.desc e) : partialAt t ends n l = partialAt s ends n l := by
  simp only [partialAt, hr, isChain_congr h]

/-- What the return of the partial `parts n` adds to a queue and makes of a descriptor. -/
def partsTo (s : State) (parts : ChanId → List DescId) (n : ChanId) (q : QueueId) : List DescId :=
  match (s.rxc n).defn with
  | some df => partialTo df (parts n) q
  | none => []

def partsDesc (s : State) (parts : ChanId → List DescId) (n : ChanId) (e : DescId) : Desc :=
  match (s.rxc n).defn with
  | some df => partialDesc s df (parts n) e
  | none => s.desc e

/-- An abandonment, where `ends` holds of the channel and `parts n` is its partial. -/
theorem abandonTo_ends (s t : State) (n : ChanId) (ends : RxChan → Bool) (parts : ChanId → List DescId)
    (hr : t.rxc n = s.rxc n) (hd : ∀ e ∈ parts n, t.desc e = s.desc e) (he : ends (s.rxc n) = true)
    (h : partialAt s ends n (parts n) = true) :
    (∀ q, (t.abandonTo n .idle).queue q = t.queue q ++ partsTo s parts n q)
    ∧ (∀ e, (t.abandonTo n .idle).desc e = if e ∈ parts n then partsDesc s parts n e else t.desc e)
    ∧ ∀ m, (t.abandonTo n .idle).rxc m = if n = m then afterAbandon (t.rxc m) else t.rxc m := by
  obtain ⟨k1, k2⟩ := returnPartial_at t n ends (parts n) (by rw [hr]; exact he) (by rw [partialAt_congr hr hd]; exact h)
  refine ⟨fun q => ?_, fun e => ?_, fun m => ?_⟩
  · rw [(abandonTo_returns t n .idle).1, k1, hr]; rfl
  · rw [(abandonTo_returns t n .idle).2, k2, hr, partsDesc]
    by_cases hm : e ∈ parts n
    · simp only [hm, if_true]
      cases (s.rxc n).defn with
      | none => exact hd e hm
      | some df => exact partialDesc_congr df _ e (hd e hm)
    · simp only [hm, if_false]
      cases (s.rxc n).defn with
      | none => rfl
      | some df => exact partialDesc_not_mem t df _ e hm
  · rw [abandonTo_rxc, atRest_abandoned]
    by_cases hm : n = m
    · subst hm; rfl
    · simp [hm]

/-- The channel is empty-handed where `ends` does not hold of it. -/
theorem partialAt_empty {s : State} {ends : RxChan → Bool} {n : ChanId} {l : List DescId}
    (he : ends (s.rxc n) = false) (h : partialAt s ends n l = true) : l = [] := by
  unfold partialAt at h
  rw [he] at h
  cases hd : (s.rxc n).defn <;> cases hp : (s.rxc n).part <;> simpa [hd, hp] using h

/-! ## The entry to OFFLINE (R131) -/

theorem chanOffline_ends (s t : State) (n : ChanId) (parts : ChanId → List DescId)
    (hr : t.rxc n = s.rxc n) (hd : ∀ e ∈ parts n, t.desc e = s.desc e)
    (h : partialAt s RxChan.busy n (parts n) = true) :
    Ends State.chanOffline parts (partsTo s parts) (partsDesc s parts) id afterOffline t n := by
  by_cases hb : (s.rxc n).busy = true
  · obtain ⟨k1, k2, k3⟩ := abandonTo_ends s t n RxChan.busy parts hr hd hb h
    have e : t.abandonIfBusy n = t.abandonTo n .idle := by simp [State.abandonIfBusy, hr, hb]
    refine ⟨fun q => ?_, fun e' => ?_, fun m => ?_, fun m => ?_⟩
    · rw [State.chanOffline, State.queue_setRx_other, e, k1]
    · rw [State.chanOffline, State.desc_setRx_other, e, k2]
    · rw [State.chanOffline, State.txc_setRx_other, e, abandonTo_frame]
      split <;> rfl
    · simp only [State.chanOffline, State.rxc_setRx, e, k3]
      by_cases hm : n = m
      · subst hm; simp [hr, afterOffline, hb, afterAbandon]
      · simp [hm]
  · have hb' : (s.rxc n).busy = false := by simpa using hb
    have hl : parts n = [] := partialAt_empty hb' h
    have e : t.abandonIfBusy n = t := by simp [State.abandonIfBusy, hr, hb']
    refine ⟨fun q => ?_, fun e' => ?_, fun m => ?_, fun m => ?_⟩
    · simp only [State.chanOffline, e, State.queue_setRx_other, partsTo, hl]
      cases (s.rxc n).defn <;> simp [partialTo]
    · simp only [State.chanOffline, e, State.desc_setRx_other, hl]
      simp
    · simp only [State.chanOffline, e, State.txc_setRx_other]
      split <;> rfl
    · simp only [State.chanOffline, State.rxc_setRx, e]
      by_cases hm : n = m
      · subst hm; simp [hr, afterOffline, hb']
      · simp [hm]

theorem chanOffline_frame (s : State) (n : ChanId) :
    s.chanOffline n = { s with
      rx := (s.chanOffline n).rx, descs := (s.chanOffline n).descs, queues := (s.chanOffline n).queues,
      events := { s.events with abandon := s.events.abandon || (s.rxc n).busy } } := by
  by_cases hb : (s.rxc n).busy = true
  · have e : s.abandonIfBusy n = s.abandonTo n .idle := by simp [State.abandonIfBusy, hb]
    simp only [State.chanOffline, e, hb, Bool.or_true]
    rw [abandonTo_frame]
    rfl
  · have hb' : (s.rxc n).busy = false := by simpa using hb
    have e : s.abandonIfBusy n = s := by simp [State.abandonIfBusy, hb']
    simp only [State.chanOffline, e, hb', Bool.or_false]
    rfl

theorem chanOffline_rxc_ne (s : State) {n m : ChanId} (h : n ≠ m) : (s.chanOffline n).rxc m = s.rxc m := by
  by_cases hb : (s.rxc n).busy = true
  · have e : s.abandonIfBusy n = s.abandonTo n .idle := by simp [State.abandonIfBusy, hb]
    simp [State.chanOffline, State.rxc_setRx, e, abandonTo_rxc, h]
  · have e : s.abandonIfBusy n = s := by simp [State.abandonIfBusy, hb]
    simp [State.chanOffline, State.rxc_setRx, e, h]

theorem foldl_chanOffline_frame {l : List ChanId} (hl : l.Nodup) (s : State) :
    l.foldl State.chanOffline s = { s with
      rx := (l.foldl State.chanOffline s).rx, descs := (l.foldl State.chanOffline s).descs,
      queues := (l.foldl State.chanOffline s).queues,
      events := { s.events with abandon := s.events.abandon || l.any fun n => (s.rxc n).busy } } := by
  induction l generalizing s with
  | nil => simp
  | cons n l ih =>
    obtain ⟨hn, hl'⟩ := List.nodup_cons.mp hl
    have hany : (l.any fun m => ((s.chanOffline n).rxc m).busy) = l.any fun m => (s.rxc m).busy := by
      rw [Bool.eq_iff_iff, List.any_eq_true, List.any_eq_true]
      refine exists_congr fun m => and_congr_right fun hm => ?_
      rw [chanOffline_rxc_ne s (fun (e : n = m) => hn (e ▸ hm))]
    have e := ih hl' (s.chanOffline n)
    rw [hany] at e
    rw [List.foldl_cons, e, chanOffline_frame]
    simp [Bool.or_assoc]

/-- The entry to OFFLINE at the receive engine, all it does (R131, R136). -/
theorem rxOffline_ending (s : State) (parts : ChanId → List DescId)
    (h : ending s (fun _ => false) RxChan.busy (fun _ => []) parts = true) :
    s.rxOffline = { s with
      rx := s.rxOffline.rx, descs := s.rxOffline.descs, queues := s.rxOffline.queues,
      events := { s.events with abandon := s.events.abandon || !noneBusy s } }
    ∧ (∀ n, s.rxOffline.rxc n = afterOffline (s.rxc n))
    ∧ (∀ q, s.rxOffline.queue q = s.queue q ++ endedTo s (fun _ => []) parts q)
    ∧ ∀ e, s.rxOffline.desc e = endedDesc s (fun _ => []) parts e := by
  simp only [ending, Bool.and_eq_true, decide_eq_true_eq] at h
  have hp : ∀ n, partialAt s RxChan.busy n (parts n) = true := fun n =>
    (Bool.and_eq_true _ _ ▸ all_of_allChans h.1 n).2
  have hnd : (allChans.flatMap parts).Nodup := by
    have := h.2
    rwa [show (allChans.flatMap fun _ => ([] : List DescId)) = [] from rfl, List.nil_append] at this
  obtain ⟨k1, k2, _, k4⟩ := foldl_ends (f := State.chanOffline) allChans_nodup hnd s
    (fun t n _ _ hr hd => chanOffline_ends s t n parts hr hd (hp n))
  refine ⟨?_, fun n => ?_, fun q => ?_, fun e => ?_⟩
  · have e := foldl_chanOffline_frame allChans_nodup s
    have hany : (allChans.any fun n => (s.rxc n).busy) = !noneBusy s := by
      simp [noneBusy, List.any_eq_not_all_not]
    rw [hany] at e
    exact e
  · exact (k4 n).trans (if_pos (mem_allChans n))
  · exact (k1 q).trans rfl
  · refine (k2 e).trans ?_
    have hnone : (allChans.find? fun _ => ([] : List DescId).contains e) = none := rfl
    simp only [endedDesc, hnone, partsDesc]
    cases allChans.find? fun n => (parts n).contains e <;> rfl

/-! ## Messages (R99, R102, R105) -/

theorem messageAt_congr {s t : State} {ends : TxChan → Bool} {n : ChanId} {l : List DescId}
    (hr : t.txc n = s.txc n) (h : ∀ e ∈ l, t.desc e = s.desc e) : messageAt t ends n l = messageAt s ends n l := by
  simp only [messageAt, hr, isChain_congr h]

/-- No message ends where `ends` does not hold of the channel. -/
theorem messageAt_empty {s : State} {ends : TxChan → Bool} {n : ChanId} {l : List DescId}
    (he : ends (s.txc n) = false) (h : messageAt s ends n l = true) : l = [] := by
  unfold messageAt at h
  rw [he] at h
  cases hd : (s.txc n).defn <;> cases hp : (s.txc n).msg <;> simpa [hd, hp] using h

/-- A message handed back, descriptor by descriptor (R6, R10). -/
theorem handBack_messageDesc (s : State) (h : DescId) (ms : List DescId) (st : DescStatus) (peer : Station)
    (n : ChanId) (hc : isChain s (h :: ms) = true) (e : DescId) :
    (s.handBack h st peer n).desc e = messageDesc s peer n st (h :: ms) e := by
  rw [handBack_desc, chain_of_isChain s hc, messageDesc]
  by_cases he : e = h
  · subst he; simp
  · have he' : ¬ h = e := fun x => he x.symm
    by_cases hm : e ∈ ms <;> simp [he, he', hm]

/-- The end of a message changes its channel, descriptors and queues alone. -/
theorem endMessage_frame (s : State) (n : ChanId) (st : DescStatus) :
    s.endMessage n st = { s with
      tx := (s.endMessage n st).tx, descs := (s.endMessage n st).descs, queues := (s.endMessage n st).queues } := by
  unfold State.endMessage
  split
  · rw [handBack_frame]; rfl
  · rfl

theorem failMessage_frame (s : State) (n : ChanId) (st : DescStatus) :
    s.failMessage n st = { s with
      tx := (s.failMessage n st).tx, descs := (s.failMessage n st).descs, queues := (s.failMessage n st).queues } := by
  unfold State.failMessage
  split
  · rw [endMessage_frame]; rfl
  · exact endMessage_frame s n st

/-- What the return of the message `msgs n` adds to a queue, and what its failure with NO_ANSWER makes of a descriptor. -/
def msgsTo (s : State) (msgs : ChanId → List DescId) (n : ChanId) (q : QueueId) : List DescId :=
  (msgs n).head?.toList.filter fun h => (s.desc h).returnQueue == q

def msgsDesc (s : State) (msgs : ChanId → List DescId) (n : ChanId) (e : DescId) : Desc :=
  match (s.txc n).defn with
  | some df => messageDesc s df.station n .noAnswer (msgs n) e
  | none => s.desc e

/-- A message that fails with NO_ANSWER in doubt, in a state that agrees with `s` on what it touches. -/
theorem failMessage_ends (s t : State) (n : ChanId) (ends : TxChan → Bool) (msgs : ChanId → List DescId)
    (df : TxDef) (h : DescId) (hdf : (s.txc n).defn = some df) (hm : (s.txc n).msg = some h)
    (hdt : (t.txc n).defn = some df) (hmt : (t.txc n).msg = some h) (hb : (t.txc n).doubt = true)
    (hd : ∀ e ∈ msgs n, t.desc e = s.desc e) (he : ends (s.txc n) = true)
    (hl : messageAt s ends n (msgs n) = true) :
    (∀ q, (t.failMessage n .noAnswer).queue q = t.queue q ++ msgsTo s msgs n q)
    ∧ (∀ e, (t.failMessage n .noAnswer).desc e = if e ∈ msgs n then msgsDesc s msgs n e else t.desc e)
    ∧ ∀ m, (t.failMessage n .noAnswer).txc m = if n = m then afterFailure (t.txc m) else t.txc m := by
  have hl' : (msgs n).head? = some h ∧ isChain s (msgs n) = true := by
    simpa [messageAt, hdf, hm, he] using hl
  obtain ⟨ms, hms⟩ : ∃ ms, msgs n = h :: ms := by
    cases hx : msgs n with
    | nil => simp [hx] at hl'
    | cons x ms => exact ⟨ms, by simpa [hx] using hl'.1⟩
  have hc : isChain t (h :: ms) = true := by
    rw [← hms, isChain_congr hd]; exact hl'.2
  have hh : t.desc h = s.desc h := hd h (by simp [hms])
  have key := failMessage_eq t n .noAnswer df h hdt hmt
  refine ⟨fun q => ?_, fun e => ?_, fun m => ?_⟩
  · rw [key, State.queue_setTx_other, handBack_queue, msgsTo, hms, hh]
    by_cases hq : (s.desc h).returnQueue = q <;> simp [hq]
  · rw [key, State.desc_setTx_other, handBack_messageDesc t h ms .noAnswer df.station n hc, hms]
    by_cases hme : e ∈ h :: ms
    · have hde : t.desc e = s.desc e := hd e (by rw [hms]; exact hme)
      simp only [hme, if_true, msgsDesc, hdf, hms, messageDesc, hde]
    · have hne : ¬ (h :: ms).head? = some e := fun x => hme (List.mem_of_head? x)
      simp only [hme, if_false, messageDesc, hne]
  · rw [key, State.txc_setTx]
    by_cases hnm : n = m
    · subst hnm
      simp only [if_true, hb, TxChan.ended, afterFailure, stateAfterEnd]
      by_cases hs : (t.txc n).state = .tearing <;> simp [hs]
    · simp only [hnm, if_false]
      rw [handBack_frame]; rfl

/-! ## The exit from ONLINE (R105) -/

theorem interruptChan_frame (s : State) (n : ChanId) :
    s.interruptChan n = { s with
      tx := (s.interruptChan n).tx, descs := (s.interruptChan n).descs, queues := (s.interruptChan n).queues } := by
  unfold State.interruptChan
  split
  · rfl
  · dsimp only
    split
    · split
      · rw [failMessage_frame]; rfl
      · rfl
    · rfl

theorem foldl_interrupt_frame (l : List ChanId) (s : State) :
    l.foldl State.interruptChan s = { s with
      tx := (l.foldl State.interruptChan s).tx, descs := (l.foldl State.interruptChan s).descs,
      queues := (l.foldl State.interruptChan s).queues } := by
  induction l generalizing s with
  | nil => rfl
  | cons n l ih => rw [List.foldl_cons, ih, interruptChan_frame]

theorem interruptChan_ends (s t : State) (n : ChanId) (msgs : ChanId → List DescId)
    (hr : t.txc n = s.txc n) (hd : ∀ e ∈ msgs n, t.desc e = s.desc e)
    (h : messageAt s TxChan.doubt n (msgs n) = true) :
    Ends State.interruptChan msgs (msgsTo s msgs) (msgsDesc s msgs) afterExit id t n := by
  have rxs : ∀ m, (t.interruptChan n).rxc m = t.rxc m := fun m => by rw [interruptChan_frame]; rfl
  refine ⟨?_, ?_, ?_, fun m => by rw [rxs]; split <;> rfl⟩
  all_goals
    cases hdf : (s.txc n).defn with
    | none =>
      have hl : msgs n = [] := by simpa [messageAt, hdf] using h
      have e : t.interruptChan n = t := by simp [State.interruptChan, hr, hdf]
      intro x
      first
      | (rw [e, msgsTo, hl]; simp)
      | (rw [e, hl]; simp)
      | (rw [e]
         by_cases hnm : n = x
         · subst hnm
           cases hm : (s.txc n).msg <;> simp [hr, afterExit, hdf]
         · simp [hnm])
    | some df =>
      cases hm : (s.txc n).msg with
      | none =>
        have hl : msgs n = [] := by simpa [messageAt, hdf, hm] using h
        have e : t.interruptChan n = t.setTx n { t.txc n with absence := 0 } := by
          simp [State.interruptChan, hr, hdf, State.txc_setTx, hm]
        intro x
        first
        | (rw [e, msgsTo, hl]; simp)
        | (rw [e, hl]; simp)
        | (rw [e, State.txc_setTx]
           by_cases hnm : n = x
           · subst hnm; simp [hr, afterExit, hdf, hm]
           · simp [hnm])
      | some hd' =>
        by_cases hb : (s.txc n).doubt = true
        · have k := failMessage_ends s (t.setTx n { t.txc n with absence := 0 }) n TxChan.doubt msgs df hd' hdf hm
            (by simp [State.txc_setTx, hr, hdf]) (by simp [State.txc_setTx, hr, hm])
            (by simp [State.txc_setTx, hr, hb]) hd hb h
          have e : t.interruptChan n =
              let u := (t.setTx n { t.txc n with absence := 0 }).failMessage n .noAnswer
              u.setTx n { u.txc n with outstanding := false } := by
            simp [State.interruptChan, hr, hdf, State.txc_setTx, hm, hb]
          intro x
          first
          | (rw [e, State.queue_setTx_other, k.1]; rfl)
          | (rw [e, State.desc_setTx_other, k.2.1]; rfl)
          | (rw [e]
             simp only [State.txc_setTx, k.2.2, if_true]
             by_cases hnm : n = x
             · subst hnm; simp [hr, afterExit, hdf, hm, hb, afterFailure]
             · simp [hnm])
        · have hb' : (s.txc n).doubt = false := by simpa using hb
          have hl : msgs n = [] := messageAt_empty hb' h
          have e : t.interruptChan n = t.setTx n (afterExit (t.txc n)) := by
            simp only [State.interruptChan, hr, hdf, afterExit, hm, State.txc_setTx, if_true, Option.isSome_some, hb',
              Bool.false_eq_true, if_false, setTx_setTx, TxChan.rewound]
          intro x
          first
          | (rw [e, msgsTo, hl]; simp)
          | (rw [e, hl]; simp)
          | (rw [e, State.txc_setTx]
             by_cases hnm : n = x
             · subst hnm; simp
             · simp [hnm])

/-- The exit from ONLINE at the transmit engine, all it does (R105). -/
theorem interrupt_ending (s : State) (msgs : ChanId → List DescId)
    (h : ending s TxChan.doubt (fun _ => false) msgs (fun _ => []) = true) :
    s.interrupt = { s with tx := s.interrupt.tx, descs := s.interrupt.descs, queues := s.interrupt.queues }
    ∧ (∀ n, s.interrupt.txc n = afterExit (s.txc n))
    ∧ (∀ q, s.interrupt.queue q = s.queue q ++ endedTo s msgs (fun _ => []) q)
    ∧ ∀ e, s.interrupt.desc e = endedDesc s msgs (fun _ => []) e := by
  simp only [ending, Bool.and_eq_true, decide_eq_true_eq] at h
  have hp : ∀ n, messageAt s TxChan.doubt n (msgs n) = true := fun n =>
    (Bool.and_eq_true _ _ ▸ all_of_allChans h.1 n).1
  have hnd : (allChans.flatMap msgs).Nodup := (List.nodup_append.mp h.2).1
  obtain ⟨k1, k2, k3, _⟩ := foldl_ends (f := State.interruptChan) allChans_nodup hnd s
    (fun t n _ ht _ hd => interruptChan_ends s t n msgs ht hd (hp n))
  refine ⟨foldl_interrupt_frame allChans s, fun n => ?_, fun q => ?_, fun e => ?_⟩
  · exact (k3 n).trans (if_pos (mem_allChans n))
  · refine (k1 q).trans ?_
    have hnone : (allChans.flatMap fun n =>
        match (s.rxc n).defn with
        | some df => partialTo df ([] : List DescId) q
        | none => []) = [] := by
      rw [List.flatMap_eq_nil_iff]
      intro n _
      cases (s.rxc n).defn <;> rfl
    exact congrArg (s.queue q ++ ·) ((List.append_nil _).symm.trans (congrArg (_ ++ ·) hnone.symm))
  · refine (k2 e).trans ?_
    have hnone : (allChans.find? fun _ => ([] : List DescId).contains e) = none := rfl
    simp only [endedDesc, hnone, msgsDesc]
    cases allChans.find? fun n => (msgs n).contains e <;> rfl

/-! ## Both engines, the transmit engine first -/

theorem ending_msgs {s : State} {p : TxChan → Bool} {r : RxChan → Bool} {msgs parts : ChanId → List DescId}
    (h : ending s p r msgs parts = true) : ending s p (fun _ => false) msgs (fun _ => []) = true := by
  simp only [ending, Bool.and_eq_true, decide_eq_true_eq, List.all_eq_true] at h ⊢
  refine ⟨fun n hn => ⟨(h.1 n hn).1, ?_⟩, ?_⟩
  · simp only [partialAt]
    cases (s.rxc n).defn <;> cases (s.rxc n).part <;> rfl
  · rw [show (allChans.flatMap fun _ => ([] : List DescId)) = [] from rfl, List.append_nil]
    exact (List.nodup_append.mp h.2).1

/-- Once the messages have been handed back, the partials are as they were. -/
theorem ending_parts {s u : State} {p : TxChan → Bool} {r : RxChan → Bool} {msgs parts : ChanId → List DescId}
    (h : ending s p r msgs parts = true) (hr : ∀ n, u.rxc n = s.rxc n)
    (hd : ∀ e, u.desc e = endedDesc s msgs (fun _ => []) e) :
    ending u (fun _ => false) r (fun _ => []) parts = true
    ∧ (∀ q, endedTo s msgs parts q = endedTo s msgs (fun _ => []) q ++ endedTo u (fun _ => []) parts q)
    ∧ ∀ e, endedDesc u (fun _ => []) parts e = endedDesc s msgs parts e := by
  simp only [ending, Bool.and_eq_true, decide_eq_true_eq, List.all_eq_true] at h
  obtain ⟨h1, h2⟩ := h
  obtain ⟨hm, hp, hap⟩ := List.nodup_append.mp h2
  have hnone : ∀ e, (allChans.find? fun _ => ([] : List DescId).contains e) = none := fun _ => rfl
  have out : ∀ n, ∀ e ∈ parts n, (allChans.find? fun k => (msgs k).contains e) = none := by
    intro n e he
    rw [List.find?_eq_none]
    intro k hk hc
    exact hap e (List.mem_flatMap.mpr ⟨k, hk, by simpa using hc⟩) e
      (List.mem_flatMap.mpr ⟨n, mem_allChans n, he⟩) rfl
  have same : ∀ n, ∀ e ∈ parts n, u.desc e = s.desc e := by
    intro n e he
    rw [hd, endedDesc]
    simp only [out n e he, hnone]
  refine ⟨?_, fun q => ?_, fun e => ?_⟩
  · simp only [ending, Bool.and_eq_true, decide_eq_true_eq, List.all_eq_true]
    refine ⟨fun n hn => ⟨?_, ?_⟩, ?_⟩
    · simp only [messageAt]
      cases (u.txc n).defn <;> cases (u.txc n).msg <;> rfl
    · rw [partialAt_congr (hr n) (same n)]
      exact (h1 n hn).2
    · rw [show (allChans.flatMap fun _ => ([] : List DescId)) = [] from rfl, List.nil_append]
      exact hp
  · have e1 : (allChans.flatMap fun n =>
        match (s.rxc n).defn with
        | some df => partialTo df ([] : List DescId) q
        | none => []) = [] := by
      rw [List.flatMap_eq_nil_iff]
      intro n _
      cases (s.rxc n).defn <;> rfl
    have e2 : endedTo s msgs (fun _ => []) q
        = allChans.flatMap fun n => (msgs n).head?.toList.filter fun h => (s.desc h).returnQueue == q := by
      unfold endedTo
      exact (congrArg (_ ++ ·) e1).trans (List.append_nil _)
    have e3 : endedTo u (fun _ => []) parts q = allChans.flatMap fun n =>
        match (s.rxc n).defn with
        | some df => partialTo df (parts n) q
        | none => [] := by
      simp only [endedTo, hr]
      rfl
    rw [e2, e3]
    rfl
  · simp only [endedDesc, hnone]
    cases hf : allChans.find? fun n => (parts n).contains e with
    | none =>
      rw [hd, endedDesc]
      simp only [hnone]
      cases allChans.find? fun k => (msgs k).contains e <;> rfl
    | some n =>
      have he : e ∈ parts n := by simpa using List.find?_some hf
      simp only [out n e he, hr]
      cases (s.rxc n).defn with
      | none => exact same n e he
      | some df => exact partialDesc_congr df _ e (same n e he)

/-- The exit from ONLINE and the entry to OFFLINE at both engines, all they do (R78, R105, R131). -/
theorem interrupt_rxOffline_ending (s : State) (msgs parts : ChanId → List DescId)
    (h : ending s TxChan.doubt RxChan.busy msgs parts = true) :
    s.interrupt.rxOffline = { s with
      tx := s.interrupt.rxOffline.tx, rx := s.interrupt.rxOffline.rx, descs := s.interrupt.rxOffline.descs,
      queues := s.interrupt.rxOffline.queues,
      events := { s.events with abandon := s.events.abandon || !noneBusy s } }
    ∧ (∀ n, s.interrupt.rxOffline.txc n = afterExit (s.txc n))
    ∧ (∀ n, s.interrupt.rxOffline.rxc n = afterOffline (s.rxc n))
    ∧ (∀ q, s.interrupt.rxOffline.queue q = s.queue q ++ endedTo s msgs parts q)
    ∧ ∀ e, s.interrupt.rxOffline.desc e = endedDesc s msgs parts e := by
  obtain ⟨a1, a2, a3, a4⟩ := interrupt_ending s msgs (ending_msgs h)
  generalize s.interrupt = u at *
  have hr : ∀ n, u.rxc n = s.rxc n := fun n => by rw [a1]; rfl
  have he : u.events = s.events := by rw [a1]
  obtain ⟨b0, b1, b2⟩ := ending_parts h hr a4
  obtain ⟨c1, c2, c3, c4⟩ := rxOffline_ending u parts b0
  generalize u.rxOffline = v at *
  have hb : noneBusy u = noneBusy s := by simp only [noneBusy, hr]
  refine ⟨?_, fun n => ?_, fun n => ?_, fun q => ?_, fun e => ?_⟩
  · rw [c1, hb, he, a1]
  · rw [← a2 n, c1]; rfl
  · rw [c2, hr]
  · rw [c3, a3, b1, List.append_assoc]
  · rw [c4, b2]

/-! ## A station becomes ABSENT (R102, R113, R130) -/

theorem absenceTreatment_frame (s : State) (a : Station) (n : ChanId) :
    s.absenceTreatment a n = { s with
      tx := (s.absenceTreatment a n).tx, descs := (s.absenceTreatment a n).descs,
      queues := (s.absenceTreatment a n).queues } := by
  unfold State.absenceTreatment
  split
  · rfl
  · split
    · split
      · exact failMessage_frame s n .noAnswer
      · split <;> rfl
    · rfl

theorem foldl_absence_frame (a : Station) (l : List ChanId) (s : State) :
    l.foldl (fun s n => s.absenceTreatment a n) s = { s with
      tx := (l.foldl (fun s n => s.absenceTreatment a n) s).tx,
      descs := (l.foldl (fun s n => s.absenceTreatment a n) s).descs,
      queues := (l.foldl (fun s n => s.absenceTreatment a n) s).queues } := by
  induction l generalizing s with
  | nil => rfl
  | cons n l ih => rw [List.foldl_cons, ih, absenceTreatment_frame]

theorem absenceTreatment_ends (s t : State) (a : Station) (n : ChanId) (msgs : ChanId → List DescId)
    (hr : t.txc n = s.txc n) (hd : ∀ e ∈ msgs n, t.desc e = s.desc e)
    (h : messageAt s (failsFor a) n (msgs n) = true) :
    Ends (fun s n => s.absenceTreatment a n) msgs (msgsTo s msgs) (msgsDesc s msgs) (afterAbsence a) id t n := by
  have rxs : ∀ m, (t.absenceTreatment a n).rxc m = t.rxc m := fun m => by rw [absenceTreatment_frame]; rfl
  by_cases hf : failsFor a (s.txc n) = true ∧ (s.txc n).msg.isSome = true
  · obtain ⟨hf, hms⟩ := hf
    obtain ⟨x, hm⟩ := Option.isSome_iff_exists.mp hms
    obtain ⟨hb, hany⟩ : (s.txc n).doubt = true ∧ (s.txc n).defn.any (fun df => df.station == a) = true := by
      simpa [failsFor] using hf
    cases hdf : (s.txc n).defn with
    | none => simp [hdf] at hany
    | some df =>
      have hst : df.station = a := by simpa [hdf] using hany
      have e : t.absenceTreatment a n = t.failMessage n .noAnswer := by
        simp [State.absenceTreatment, hr, hdf, hst, hm, hb]
      have k := failMessage_ends s t n (failsFor a) msgs df x hdf hm (by rw [hr, hdf]) (by rw [hr, hm])
        (by rw [hr, hb]) hd hf h
      refine ⟨fun q => by rw [← k.1 q, ← e], fun e' => by rw [← k.2.1 e', ← e], fun m => ?_,
        fun m => by rw [rxs]; split <;> rfl⟩
      refine (congrArg (fun u : State => u.txc m) e).trans ((k.2.2 m).trans ?_)
      by_cases hnm : n = m
      · subst hnm; simp [hr, afterAbsence, hany, hm, hb]
      · simp [hnm]
  · have hl : msgs n = [] := by
      by_cases h1 : failsFor a (s.txc n) = true
      · have h2 : (s.txc n).msg = none := by simpa [h1] using hf
        cases hx : (s.txc n).defn <;> simpa [messageAt, h2, hx] using h
      · exact messageAt_empty (by simpa using h1) h
    have self : t.setTx n (s.txc n) = t := by rw [← hr]; exact setTx_self t n
    have e : t.absenceTreatment a n = t.setTx n (afterAbsence a (s.txc n)) := by
      cases hdf : (s.txc n).defn with
      | none => simp [State.absenceTreatment, hr, hdf, afterAbsence, self]
      | some df =>
        cases hm : (s.txc n).msg with
        | none => simp [State.absenceTreatment, hr, hdf, hm, afterAbsence, self]
        | some x =>
          by_cases hst : df.station = a
          · have hb : (s.txc n).doubt = false := by
              have : ¬ failsFor a (s.txc n) = true := fun c => hf ⟨c, by simp [hm]⟩
              simpa [failsFor, hdf, hst] using this
            by_cases hc : (s.txc n).cur = some x
            · simp [State.absenceTreatment, hr, hdf, hm, hst, hb, hc, afterAbsence, self]
            · simp [State.absenceTreatment, hr, hdf, hm, hst, hb, hc, afterAbsence, TxChan.rewound]
          · simp [State.absenceTreatment, hr, hdf, hm, hst, afterAbsence, self]
    refine ⟨fun q => ?_, fun e' => ?_, fun m => ?_, fun m => by rw [rxs]; split <;> rfl⟩
    · rw [e, State.queue_setTx_other, msgsTo, hl]; simp
    · rw [e, State.desc_setTx_other, hl]; simp
    · rw [e, State.txc_setTx]
      by_cases hnm : n = m
      · subst hnm; simp [hr]
      · simp [hnm]

/-- A change to ABSENT at the transmit engine, all it does (R102). -/
theorem txAbsent_ending (s : State) (a : Station) (msgs : ChanId → List DescId)
    (h : ending s (failsFor a) (fun _ => false) msgs (fun _ => []) = true) :
    s.txAbsent a = { s with
      tx := (s.txAbsent a).tx, descs := (s.txAbsent a).descs, queues := (s.txAbsent a).queues }
    ∧ (∀ n, (s.txAbsent a).txc n = afterAbsence a (s.txc n))
    ∧ (∀ q, (s.txAbsent a).queue q = s.queue q ++ endedTo s msgs (fun _ => []) q)
    ∧ ∀ e, (s.txAbsent a).desc e = endedDesc s msgs (fun _ => []) e := by
  simp only [ending, Bool.and_eq_true, decide_eq_true_eq] at h
  have hp : ∀ n, messageAt s (failsFor a) n (msgs n) = true := fun n =>
    (Bool.and_eq_true _ _ ▸ all_of_allChans h.1 n).1
  have hnd : (allChans.flatMap msgs).Nodup := (List.nodup_append.mp h.2).1
  obtain ⟨k1, k2, k3, _⟩ := foldl_ends (f := fun s n => s.absenceTreatment a n) allChans_nodup hnd s
    (fun t n _ ht _ hd => absenceTreatment_ends s t a n msgs ht hd (hp n))
  refine ⟨foldl_absence_frame a allChans s, fun n => ?_, fun q => ?_, fun e => ?_⟩
  · exact (k3 n).trans (if_pos (mem_allChans n))
  · refine (k1 q).trans ?_
    have hnone : (allChans.flatMap fun n =>
        match (s.rxc n).defn with
        | some df => partialTo df ([] : List DescId) q
        | none => []) = [] := by
      rw [List.flatMap_eq_nil_iff]
      intro n _
      cases (s.rxc n).defn <;> rfl
    exact congrArg (s.queue q ++ ·) ((List.append_nil _).symm.trans (congrArg (_ ++ ·) hnone.symm))
  · refine (k2 e).trans ?_
    have hnone : (allChans.find? fun _ => ([] : List DescId).contains e) = none := rfl
    simp only [endedDesc, hnone, msgsDesc]
    cases allChans.find? fun n => (msgs n).contains e <;> rfl

/-- A receive channel whose source becomes ABSENT (R130). -/
def afterSourceAbsent (a : Station) (c : RxChan) : RxChan := if c.busyFrom a then afterAbandon c else c

theorem sourceAbsent_ends (s t : State) (a : Station) (n : ChanId) (parts : ChanId → List DescId)
    (hr : t.rxc n = s.rxc n) (hd : ∀ e ∈ parts n, t.desc e = s.desc e)
    (h : partialAt s (fun c => c.busyFrom a) n (parts n) = true) :
    Ends (fun s n => s.sourceAbsent a n) parts (partsTo s parts) (partsDesc s parts) id (afterSourceAbsent a) t n := by
  by_cases hb : (s.rxc n).busyFrom a = true
  · obtain ⟨k1, k2, k3⟩ := abandonTo_ends s (t.setTally n a none) n (fun c => c.busyFrom a) parts hr hd hb h
    have e : t.sourceAbsent a n = (t.setTally n a none).abandonTo n .idle := by
      simp [State.sourceAbsent, hr, hb]
    refine ⟨fun q => ?_, fun e' => ?_, fun m => ?_, fun m => ?_⟩
    · rw [e, k1]; rfl
    · rw [e, k2]; rfl
    · rw [e, abandonTo_frame]
      split <;> rfl
    · rw [e, k3]
      by_cases hm : n = m
      · subst hm; simp [hr, afterSourceAbsent, hb]
      · simp [hm]
  · have hb' : (s.rxc n).busyFrom a = false := by simpa using hb
    have hl : parts n = [] := partialAt_empty (ends := fun c => c.busyFrom a) hb' h
    have e : t.sourceAbsent a n = t.setTally n a none := by simp [State.sourceAbsent, hr, hb']
    refine ⟨fun q => ?_, fun e' => ?_, fun m => ?_, fun m => ?_⟩
    · simp only [e, State.queue_setTally_other, partsTo, hl]
      cases (s.rxc n).defn <;> simp [partialTo]
    · simp only [e, State.desc_setTally_other, hl]
      simp
    · simp only [e, State.txc_setTally_other]
      split <;> rfl
    · simp only [e, State.rxc_setTally_other]
      by_cases hm : n = m
      · subst hm; simp [hr, afterSourceAbsent, hb']
      · simp [hm]

theorem sourceAbsent_frame (s : State) (a : Station) (n : ChanId) :
    s.sourceAbsent a n = { s with
      rx := (s.sourceAbsent a n).rx, tallies := (s.setTally n a none).tallies, descs := (s.sourceAbsent a n).descs,
      queues := (s.sourceAbsent a n).queues,
      events := { s.events with abandon := s.events.abandon || (s.rxc n).busyFrom a } } := by
  by_cases hb : (s.rxc n).busyFrom a = true
  · have e : s.sourceAbsent a n = (s.setTally n a none).abandonTo n .idle := by simp [State.sourceAbsent, hb]
    rw [e, abandonTo_frame, hb, Bool.or_true]
    rfl
  · have hb' : (s.rxc n).busyFrom a = false := by simpa using hb
    have e : s.sourceAbsent a n = s.setTally n a none := by simp [State.sourceAbsent, hb']
    rw [e, hb', Bool.or_false]
    rfl

theorem sourceAbsent_rxc_ne (s : State) (a : Station) {n m : ChanId} (h : n ≠ m) :
    (s.sourceAbsent a n).rxc m = s.rxc m := by
  by_cases hb : (s.rxc n).busyFrom a = true
  · simp [State.sourceAbsent, hb, abandonTo_rxc, h]
  · simp [State.sourceAbsent, hb]

theorem foldl_sourceAbsent_frame (a : Station) {l : List ChanId} (hl : l.Nodup) (s : State) :
    (l.foldl (fun s n => s.sourceAbsent a n) s = { s with
      rx := (l.foldl (fun s n => s.sourceAbsent a n) s).rx,
      tallies := (l.foldl (fun s n => s.sourceAbsent a n) s).tallies,
      descs := (l.foldl (fun s n => s.sourceAbsent a n) s).descs,
      queues := (l.foldl (fun s n => s.sourceAbsent a n) s).queues,
      events := { s.events with abandon := s.events.abandon || l.any fun n => (s.rxc n).busyFrom a } })
    ∧ ∀ m b, (l.foldl (fun s n => s.sourceAbsent a n) s).tallyOf m b =
        if m ∈ l ∧ b = a then none else s.tallyOf m b := by
  induction l generalizing s with
  | nil => simp
  | cons n l ih =>
    obtain ⟨hn, hl'⟩ := List.nodup_cons.mp hl
    have hany : (l.any fun m => ((s.sourceAbsent a n).rxc m).busyFrom a) = l.any fun m => (s.rxc m).busyFrom a := by
      rw [Bool.eq_iff_iff, List.any_eq_true, List.any_eq_true]
      refine exists_congr fun m => and_congr_right fun hm => ?_
      rw [sourceAbsent_rxc_ne s a (fun (e : n = m) => hn (e ▸ hm))]
    obtain ⟨e1, e2⟩ := ih hl' (s.sourceAbsent a n)
    rw [hany] at e1
    refine ⟨?_, fun m b => ?_⟩
    · rw [List.foldl_cons, e1, sourceAbsent_frame]
      simp [Bool.or_assoc]
    · have ht : (s.sourceAbsent a n).tallyOf m b = (s.setTally n a none).tallyOf m b := by
        rw [sourceAbsent_frame]; rfl
      rw [List.foldl_cons, e2, ht, State.tallyOf_setTally]
      by_cases hb : b = a <;> by_cases hm : m = n
      · subst hb; subst hm; simp
      · subst hb
        have hm' : ¬ n = m := fun x => hm x.symm
        simp [hm, hm']
      · have hb' : ¬ a = b := fun x => hb x.symm
        simp [hb, hb']
      · have hb' : ¬ a = b := fun x => hb x.symm
        simp [hb, hb']

/-- A change to ABSENT at the receive engine, all it does (R113, R130). -/
theorem rxAbsent_ending (s : State) (a : Station) (parts : ChanId → List DescId)
    (h : ending s (fun _ => false) (fun c => c.busyFrom a) (fun _ => []) parts = true) :
    s.rxAbsent a = { s with
      rx := (s.rxAbsent a).rx, tallies := (s.rxAbsent a).tallies, descs := (s.rxAbsent a).descs,
      queues := (s.rxAbsent a).queues,
      events := { s.events with abandon := s.events.abandon || !nothingFrom s a } }
    ∧ (∀ n b, (s.rxAbsent a).tallyOf n b = if b = a then none else s.tallyOf n b)
    ∧ (∀ n, (s.rxAbsent a).rxc n = if (s.rxc n).busyFrom a then afterAbandon (s.rxc n) else s.rxc n)
    ∧ (∀ q, (s.rxAbsent a).queue q = s.queue q ++ endedTo s (fun _ => []) parts q)
    ∧ ∀ e, (s.rxAbsent a).desc e = endedDesc s (fun _ => []) parts e := by
  simp only [ending, Bool.and_eq_true, decide_eq_true_eq] at h
  have hp : ∀ n, partialAt s (fun c => c.busyFrom a) n (parts n) = true := fun n =>
    (Bool.and_eq_true _ _ ▸ all_of_allChans h.1 n).2
  have hnd : (allChans.flatMap parts).Nodup := (List.nodup_append.mp h.2).2.1
  obtain ⟨k1, k2, _, k4⟩ := foldl_ends (f := fun s n => s.sourceAbsent a n) allChans_nodup hnd s
    (fun t n _ _ hr hd => sourceAbsent_ends s t a n parts hr hd (hp n))
  obtain ⟨f1, f2⟩ := foldl_sourceAbsent_frame a allChans_nodup s
  have hany : (allChans.any fun n => (s.rxc n).busyFrom a) = !nothingFrom s a := by
    simp [nothingFrom, List.any_eq_not_all_not]
  rw [hany] at f1
  refine ⟨f1, fun n b => ?_, fun n => ?_, fun q => (k1 q).trans rfl, fun e => ?_⟩
  · refine (f2 n b).trans ?_
    simp [mem_allChans n]
  · exact (k4 n).trans (if_pos (mem_allChans n))
  · refine (k2 e).trans ?_
    have hnone : (allChans.find? fun _ => ([] : List DescId).contains e) = none := rfl
    simp only [endedDesc, hnone, partsDesc]
    cases allChans.find? fun n => (parts n).contains e <;> rfl

/-- A change to ABSENT at both engines, all it does (R81, R102, R113, R130). -/
theorem becomeAbsent_ending (s : State) (a : Station) (msgs parts : ChanId → List DescId)
    (h : ending s (failsFor a) (fun c => c.busyFrom a) msgs parts = true) :
    s.becomeAbsent a = { s with
      roster := put s.roster a { state := .absent, misses := 2 }, tx := (s.becomeAbsent a).tx,
      rx := (s.becomeAbsent a).rx, tallies := (s.becomeAbsent a).tallies, descs := (s.becomeAbsent a).descs,
      queues := (s.becomeAbsent a).queues,
      events := { s.events with abandon := s.events.abandon || !nothingFrom s a } }
    ∧ (∀ n b, (s.becomeAbsent a).tallyOf n b = if b = a then none else s.tallyOf n b)
    ∧ (∀ n, (s.becomeAbsent a).txc n = afterAbsence a (s.txc n))
    ∧ (∀ n, (s.becomeAbsent a).rxc n = if (s.rxc n).busyFrom a then afterAbandon (s.rxc n) else s.rxc n)
    ∧ (∀ q, (s.becomeAbsent a).queue q = s.queue q ++ endedTo s msgs parts q)
    ∧ ∀ e, (s.becomeAbsent a).desc e = endedDesc s msgs parts e := by
  have key : ∀ r : State, r.descs = s.descs → r.queues = s.queues → r.tx = s.tx → r.rx = s.rx →
      r.tallies = s.tallies → r.events = s.events →
      (r.txAbsent a).rxAbsent a = { r with
        tx := ((r.txAbsent a).rxAbsent a).tx, rx := ((r.txAbsent a).rxAbsent a).rx,
        tallies := ((r.txAbsent a).rxAbsent a).tallies, descs := ((r.txAbsent a).rxAbsent a).descs,
        queues := ((r.txAbsent a).rxAbsent a).queues,
        events := { s.events with abandon := s.events.abandon || !nothingFrom s a } }
      ∧ (∀ n b, ((r.txAbsent a).rxAbsent a).tallyOf n b = if b = a then none else s.tallyOf n b)
      ∧ (∀ n, ((r.txAbsent a).rxAbsent a).txc n = afterAbsence a (s.txc n))
      ∧ (∀ n, ((r.txAbsent a).rxAbsent a).rxc n
          = if (s.rxc n).busyFrom a then afterAbandon (s.rxc n) else s.rxc n)
      ∧ (∀ q, ((r.txAbsent a).rxAbsent a).queue q = s.queue q ++ endedTo s msgs parts q)
      ∧ ∀ e, ((r.txAbsent a).rxAbsent a).desc e = endedDesc s msgs parts e := by
    intro r g1 g2 g3 g4 g5 g6
    have hd' : ∀ e, r.desc e = s.desc e := fun e => by simp only [State.desc, g1]
    have hq' : ∀ q, r.queue q = s.queue q := fun q => by simp only [State.queue, g2]
    have ht' : ∀ n, r.txc n = s.txc n := fun n => by simp only [State.txc, g3]
    have hx' : ∀ n, r.rxc n = s.rxc n := fun n => by simp only [State.rxc, g4]
    have hl' : ∀ n b, r.tallyOf n b = s.tallyOf n b := fun n b => by simp only [State.tallyOf, g5]
    have hE : ending r (failsFor a) (fun c => c.busyFrom a) msgs parts = true := by
      rw [← h]
      simp only [ending]
      refine congrArg (· && _) (congrArg allChans.all (funext fun n => ?_))
      rw [messageAt_congr (ht' n) (fun e _ => hd' e), partialAt_congr (hx' n) (fun e _ => hd' e)]
    have eTo : ∀ q, endedTo r msgs parts q = endedTo s msgs parts q := fun q => by
      simp only [endedTo, hd', hx']
    have eDesc : ∀ e, endedDesc r msgs parts e = endedDesc s msgs parts e := fun e => by
      simp only [endedDesc, hd', hx', ht', partialDesc, messageDesc]
    obtain ⟨a1, a2, a3, a4⟩ := txAbsent_ending r a msgs (ending_msgs hE)
    generalize r.txAbsent a = u at *
    have hr : ∀ n, u.rxc n = r.rxc n := fun n => by rw [a1]; rfl
    have he : u.events = r.events := by rw [a1]
    obtain ⟨b0, b1, b2⟩ := ending_parts hE hr a4
    obtain ⟨c1, c2, c3, c4, c5⟩ := rxAbsent_ending u a parts b0
    generalize u.rxAbsent a = v at *
    have hb : nothingFrom u a = nothingFrom s a := by simp only [nothingFrom, hr, hx']
    refine ⟨?_, fun n b => ?_, fun n => ?_, fun n => ?_, fun q => ?_, fun e => ?_⟩
    · rw [c1, hb, he, g6, a1]
    · rw [c2, ← hl' n b]
      have : u.tallyOf n b = r.tallyOf n b := by rw [a1]; rfl
      rw [this]
    · rw [← ht' n, ← a2 n, c1]; rfl
    · rw [c3, hr, hx']
    · rw [c4, a3, hq', ← eTo, b1, List.append_assoc]
    · rw [c5, b2, eDesc]
  exact key (s.setRoster a { state := .absent, misses := 2 }) rfl rfl rfl rfl rfl rfl

/-! ## Patience (R129) -/

/-- A channel whose patience runs out: the partial goes back and the abandonment is counted; its idle turns no longer
matter (R128, R129). -/
theorem patienceOf_out (s : State) (a : Station) (n : ChanId) (h : patienceOut a (s.rxc n) = true) :
    s.patienceOf a n = (s.setRx n { s.rxc n with idle := (s.rxc n).idle + 1 }).abandonTo n .idle := by
  simp only [patienceOut, Bool.and_eq_true, Bool.not_eq_true', Option.any_eq_true, decide_eq_true_eq] at h
  obtain ⟨⟨hb, hp⟩, df, hd, hi⟩ := h
  simp [State.patienceOf, hd, hb, hp, State.rxc_setRx, hi]

/-- Any other channel only counts the turn (R129). -/
theorem patienceOf_lasts (s : State) (a : Station) (n : ChanId) (h : patienceOut a (s.rxc n) = false) :
    s.patienceOf a n = s ∧ afterPatience a (s.rxc n) = s.rxc n
      ∨ s.patienceOf a n = s.setRx n (afterPatience a (s.rxc n)) := by
  unfold State.patienceOf afterPatience
  rw [if_neg (by simp [h])]
  cases hd : (s.rxc n).defn with
  | none => exact .inl ⟨rfl, by simp⟩
  | some df =>
    by_cases hb : (s.rxc n).busyFrom a = true
    · by_cases hp : (s.rxc n).progress = true
      · exact .inr (by simp [afterTurnOf, hb, hp])
      · have hi : ¬ df.patience ≤ (s.rxc n).idle + 1 := by simpa [patienceOut, hd, hb, hp] using h
        exact .inr (by simp [afterTurnOf, hb, hp, State.rxc_setRx, hi])
    · exact .inl ⟨by simp [hb], by simp [afterTurnOf, hb]⟩

theorem patienceOf_ends (s t : State) (a : Station) (n : ChanId) (parts : ChanId → List DescId)
    (hr : t.rxc n = s.rxc n) (hd : ∀ e ∈ parts n, t.desc e = s.desc e)
    (h : partialAt s (patienceOut a) n (parts n) = true) :
    Ends (fun s n => s.patienceOf a n) parts (partsTo s parts) (partsDesc s parts) id (afterPatience a) t n := by
  by_cases hb : patienceOut a (s.rxc n) = true
  · have e := patienceOf_out t a n (by rw [hr]; exact hb)
    have c : ∀ u : State, (u.setRx n { s.rxc n with idle := (s.rxc n).idle + 1 }).rxc n
        = { s.rxc n with idle := (s.rxc n).idle + 1 } := fun u => by rw [State.rxc_setRx, if_pos rfl]
    rw [hr] at e
    obtain ⟨k1, k2, k3⟩ := abandonTo_ends (s.setRx n { s.rxc n with idle := (s.rxc n).idle + 1 })
      (t.setRx n { s.rxc n with idle := (s.rxc n).idle + 1 }) n (fun _ => true) parts (by rw [c, c]) hd rfl
      (by
        have ch : isChain (s.setRx n { s.rxc n with idle := (s.rxc n).idle + 1 }) (parts n) = isChain s (parts n) :=
          isChain_congr fun _ _ => rfl
        rw [partialAt, hb] at h
        rw [partialAt, c, ch]
        exact h)
    refine ⟨fun q => ?_, fun e' => ?_, fun m => ?_, fun m => ?_⟩
    · simp only [e, k1, partsTo, c]; rfl
    · simp only [e, k2, partsDesc, c]; rfl
    · simp only [e]
      rw [abandonTo_frame]
      split <;> rfl
    · simp only [e, k3]
      by_cases hm : n = m
      · subst hm
        rw [if_pos rfl, if_pos rfl, c, hr, afterPatience, if_pos hb]
        rfl
      · rw [if_neg hm, if_neg hm, State.rxc_setRx, if_neg hm]
  · have hb' : patienceOut a (s.rxc n) = false := by simpa using hb
    have hl : parts n = [] := partialAt_empty hb' h
    have none : ∀ q, partsTo s parts n q = [] := fun q => by
      simp only [partsTo, hl]
      cases (s.rxc n).defn <;> rfl
    rcases patienceOf_lasts t a n (by rw [hr]; exact hb') with ⟨e, c⟩ | e
    · refine ⟨fun q => ?_, fun e' => ?_, fun m => ?_, fun m => ?_⟩
      · simp only [e, none, List.append_nil]
      · simp [e, hl]
      · simp only [e]
        split <;> rfl
      · simp only [e]
        by_cases hm : n = m
        · subst hm; rw [if_pos rfl, c]
        · rw [if_neg hm]
    · refine ⟨fun q => ?_, fun e' => ?_, fun m => ?_, fun m => ?_⟩
      · simp only [e, none, List.append_nil]; rfl
      · simp [e, hl]
      · simp only [e]
        split <;> rfl
      · simp only [e, State.rxc_setRx]
        by_cases hm : n = m
        · subst hm; rfl
        · rw [if_neg hm, if_neg hm]

theorem patienceOf_frame (s : State) (a : Station) (n : ChanId) :
    s.patienceOf a n = { s with
      rx := (s.patienceOf a n).rx, descs := (s.patienceOf a n).descs, queues := (s.patienceOf a n).queues,
      events := { s.events with abandon := s.events.abandon || patienceOut a (s.rxc n) } } := by
  by_cases hb : patienceOut a (s.rxc n) = true
  · rw [patienceOf_out s a n hb, abandonTo_frame, hb, Bool.or_true]
    rfl
  · have hb' : patienceOut a (s.rxc n) = false := by simpa using hb
    rw [hb', Bool.or_false]
    rcases patienceOf_lasts s a n hb' with ⟨e, -⟩ | e
    · rw [e]
    · rw [e]; rfl

theorem patienceOf_rxc_ne (s : State) (a : Station) {n m : ChanId} (h : n ≠ m) :
    (s.patienceOf a n).rxc m = s.rxc m := by
  by_cases hb : patienceOut a (s.rxc n) = true
  · rw [patienceOf_out s a n hb, abandonTo_rxc, if_neg h, State.rxc_setRx, if_neg h]
  · rcases patienceOf_lasts s a n (by simpa using hb) with ⟨e, -⟩ | e
    · rw [e]
    · rw [e, State.rxc_setRx, if_neg h]

theorem foldl_patience_frame (a : Station) {l : List ChanId} (hl : l.Nodup) (s : State) :
    l.foldl (fun s n => s.patienceOf a n) s = { s with
      rx := (l.foldl (fun s n => s.patienceOf a n) s).rx, descs := (l.foldl (fun s n => s.patienceOf a n) s).descs,
      queues := (l.foldl (fun s n => s.patienceOf a n) s).queues,
      events := { s.events with abandon := s.events.abandon || l.any fun n => patienceOut a (s.rxc n) } } := by
  induction l generalizing s with
  | nil => simp
  | cons n l ih =>
    obtain ⟨hn, hl'⟩ := List.nodup_cons.mp hl
    have hany : (l.any fun m => patienceOut a ((s.patienceOf a n).rxc m)) = l.any fun m => patienceOut a (s.rxc m) := by
      rw [Bool.eq_iff_iff, List.any_eq_true, List.any_eq_true]
      refine exists_congr fun m => and_congr_right fun hm => ?_
      rw [patienceOf_rxc_ne s a (fun (e : n = m) => hn (e ▸ hm))]
    have e := ih hl' (s.patienceOf a n)
    rw [hany] at e
    rw [List.foldl_cons, e, patienceOf_frame]
    simp [Bool.or_assoc]

/-- A turn end at the receive engine, all it does (R128, R129, R135). -/
theorem countPatience_ending (s : State) (a : Station) (parts : ChanId → List DescId)
    (h : ending s (fun _ => false) (patienceOut a) (fun _ => []) parts = true) :
    TurnCounted a parts s (s.countPatience a) := by
  simp only [ending, Bool.and_eq_true, decide_eq_true_eq] at h
  have hp : ∀ n, partialAt s (patienceOut a) n (parts n) = true := fun n =>
    (Bool.and_eq_true _ _ ▸ all_of_allChans h.1 n).2
  have hnd : (allChans.flatMap parts).Nodup := (List.nodup_append.mp h.2).2.1
  obtain ⟨k1, k2, _, k4⟩ := foldl_ends (f := fun s n => s.patienceOf a n) allChans_nodup hnd s
    (fun t n _ _ hr hd => patienceOf_ends s t a n parts hr hd (hp n))
  refine ⟨foldl_patience_frame a allChans_nodup s, fun n => ?_, fun q => (k1 q).trans rfl, fun e => ?_⟩
  · exact (k4 n).trans (if_pos (mem_allChans n))
  · refine (k2 e).trans ?_
    have hnone : (allChans.find? fun _ => ([] : List DescId).contains e) = none := rfl
    simp only [endedDesc, hnone, partsDesc]
    cases allChans.find? fun n => (parts n).contains e <;> rfl

/-- Outside the messages and partials nothing is rewritten. -/
theorem endedDesc_not_mem {s : State} {msgs parts : ChanId → List DescId} {e : DescId}
    (hm : e ∉ allChans.flatMap msgs) (hp : e ∉ allChans.flatMap parts) : endedDesc s msgs parts e = s.desc e := by
  have none : ∀ f : ChanId → List DescId, e ∉ allChans.flatMap f → (allChans.find? fun n => (f n).contains e) = none := by
    intro f h
    rw [List.find?_eq_none]
    intro n hn hc
    exact h (List.mem_flatMap.mpr ⟨n, hn, by simpa using hc⟩)
  simp only [endedDesc, none msgs hm, none parts hp]

theorem afterPatience_defn (a : Station) (c : RxChan) : (afterPatience a c).defn = c.defn := by
  unfold afterPatience afterTurnOf
  split
  · rfl
  · split <;> (try split) <;> (try split) <;> rfl

/-- A channel whose patience lasts keeps its state, source and partial (R129). -/
theorem afterPatience_kept (a : Station) (c : RxChan) (h : patienceOut a c = false) :
    (afterPatience a c).busyFrom a = c.busyFrom a ∧ (afterPatience a c).part = c.part
      ∧ afterAbandon (afterPatience a c) = afterAbandon c := by
  unfold afterPatience afterTurnOf
  rw [if_neg (by simp [h])]
  split <;> (try split) <;> (try split) <;> exact ⟨rfl, rfl, rfl⟩

/-- The second silent turn of a station at both engines and the roster, all it does (R65, R81, R102, R129, R130). -/
theorem missedTwice_ending (s : State) (a : Station) (gone msgs parts : ChanId → List DescId)
    (h : missedTwiceEnds s a gone msgs parts = true) :
    MissedTwice a gone msgs parts s ((s.countPatience a).becomeAbsent a) := by
  simp only [missedTwiceEnds, Bool.and_eq_true, decide_eq_true_eq] at h
  obtain ⟨⟨h1, h2⟩, h3⟩ := h
  obtain ⟨k1, k2, k3, k4⟩ := countPatience_ending s a gone h1
  generalize s.countPatience a = w at *
  have tx : ∀ n, w.txc n = s.txc n := fun n => by rw [k1]; rfl
  have apart : ∀ n, ∀ e ∈ msgs n ++ parts n, e ∉ allChans.flatMap gone := by
    rw [List.append_assoc, List.nodup_append] at h3
    intro n e he hg
    refine h3.2.2 e hg e ?_ rfl
    rcases List.mem_append.mp he with x | x
    · exact List.mem_append.mpr (.inl (List.mem_flatMap.mpr ⟨n, mem_allChans n, x⟩))
    · exact List.mem_append.mpr (.inr (List.mem_flatMap.mpr ⟨n, mem_allChans n, x⟩))
  have same : ∀ n, ∀ e ∈ msgs n ++ parts n, w.desc e = s.desc e := fun n e he => by
    rw [k4, endedDesc_not_mem (by simp) (apart n e he)]
  have out : ∀ c : RxChan, patienceOut a c = true → (afterPatience a c).busyFrom a = false ∧ c.busyFrom a = true := by
    intro c hc
    refine ⟨by rw [afterPatience, if_pos hc]; rfl, ?_⟩
    simp only [patienceOut, Bool.and_eq_true] at hc
    exact hc.1.1
  have hE : ending w (failsFor a) (fun c => c.busyFrom a) msgs parts = true := by
    simp only [ending, Bool.and_eq_true] at h2 ⊢
    refine ⟨List.all_eq_true.mpr fun n hn => ?_, h2.2⟩
    obtain ⟨m, p⟩ := Bool.and_eq_true _ _ ▸ List.all_eq_true.mp h2.1 n hn
    rw [Bool.and_eq_true]
    refine ⟨by rw [messageAt_congr (tx n) (fun e he => same n e (by simp [he]))]; exact m, ?_⟩
    have ch : isChain w (parts n) = isChain s (parts n) := isChain_congr fun e he => same n e (by simp [he])
    unfold partialAt at p ⊢
    rw [k2, afterPatience_defn, ch]
    by_cases hp : patienceOut a (s.rxc n) = true
    · have hl : parts n = [] := by
        simp only [hp, Bool.not_true, Bool.and_false] at p
        cases hd : (s.rxc n).defn <;> cases hq : (s.rxc n).part <;> simpa [hd, hq] using p
      beta_reduce
      rw [(out _ hp).1, hl]
      cases (s.rxc n).defn <;> cases (afterPatience a (s.rxc n)).part <;> rfl
    · have hp' : patienceOut a (s.rxc n) = false := by simpa using hp
      obtain ⟨e1, e2, -⟩ := afterPatience_kept a (s.rxc n) hp'
      beta_reduce at p ⊢
      rw [e1, e2]
      simpa [hp'] using p
  obtain ⟨b1, b2, b3, b4, b5, b6⟩ := becomeAbsent_ending w a msgs parts hE
  generalize w.becomeAbsent a = t at *
  have kept : ∀ c : RxChan, (patienceOut a c || (afterPatience a c).busyFrom a) = c.busyFrom a := by
    intro c
    by_cases hc : patienceOut a c = true
    · rw [hc, (out c hc).2]; rfl
    · have hc' : patienceOut a c = false := by simpa using hc
      rw [hc', (afterPatience_kept a c hc').1, Bool.false_or]
  have any : ∀ f g : ChanId → Bool, (allChans.any f || allChans.any g) = allChans.any fun n => f n || g n := by
    intro f g
    rw [Bool.eq_iff_iff]
    simp only [Bool.or_eq_true, List.any_eq_true, and_or_left, exists_or]
  have busy : (w.events.abandon || !nothingFrom w a) = (s.events.abandon || !nothingFrom s a) := by
    have e : ∀ u : State, (!nothingFrom u a) = allChans.any fun n => (u.rxc n).busyFrom a := fun u => by
      simp [nothingFrom, List.any_eq_not_all_not]
    have ev : w.events.abandon = (s.events.abandon || allChans.any fun n => patienceOut a (s.rxc n)) := by rw [k1]
    rw [e w, e s, ev, ← funext fun n => kept (s.rxc n), ← any, ← Bool.or_assoc]
    simp only [k2]
  have ended : ∀ q, endedTo w msgs parts q = endedTo s msgs parts q := fun q => by
    have f : ∀ n, (msgs n).head?.toList.filter (fun h => (w.desc h).returnQueue == q)
        = (msgs n).head?.toList.filter fun h => (s.desc h).returnQueue == q := fun n =>
      List.filter_congr fun h hh => by
        rw [same n h (by simp [List.mem_of_head? (Option.mem_toList.mp hh)])]
    have g : ∀ n, (w.rxc n).defn = (s.rxc n).defn := fun n => by rw [k2, afterPatience_defn]
    unfold endedTo
    rw [funext f]
    simp only [g]
  refine ⟨?_, fun b => ?_, fun n b => ?_, fun n => ?_, fun n => ?_, fun q => ?_, fun e => ?_⟩
  · rw [b1, busy, k1]
  · have hr : w.roster = s.roster := by rw [k1]
    rw [b1]
    simp only [State.rosterOf, look_put, hr]
    by_cases hb : b = a
    · rw [if_pos hb.symm, if_pos hb]
    · rw [if_neg fun x => hb x.symm, if_neg hb]
  · rw [b2, k1]; rfl
  · rw [b3, tx]
  · rw [b4, k2]
    by_cases hp : patienceOut a (s.rxc n) = true
    · rw [(out _ hp).1, (out _ hp).2, afterPatience, if_pos hp]
      rfl
    · have hp' : patienceOut a (s.rxc n) = false := by simpa using hp
      obtain ⟨e1, -, e3⟩ := afterPatience_kept a (s.rxc n) hp'
      rw [e1, e3]
      by_cases hb : (s.rxc n).busyFrom a = true
      · rw [if_pos hb, if_pos hb]
      · rw [if_neg hb, if_neg hb, afterPatience, if_neg hp, afterTurnOf, if_neg hb, ite_self]
  · rw [b5, k3, ended]
  · rw [b6]
    by_cases he : e ∈ allChans.flatMap gone
    · rw [if_pos he, ← k4]
      rw [List.append_assoc, List.nodup_append] at h3
      exact endedDesc_not_mem (fun x => h3.2.2 e he e (List.mem_append.mpr (.inl x)) rfl)
        fun x => h3.2.2 e he e (List.mem_append.mpr (.inr x)) rfl
    · have hd : w.desc e = s.desc e := by rw [k4, endedDesc_not_mem (by simp) he]
      rw [if_neg he]
      simp only [endedDesc, messageDesc, partialDesc, tx, k2, afterPatience_defn, hd]

end Sys2Proof.Machine
end

