-- ==== Sys2Proof/Laws/Memory.lean ====
section
/-! SUPPORT. Packet memory: a read after a write, and that every memory operation keeps the canonical form (R1,
R21, R22). -/

namespace Sys2Proof.Machine

theorem sortedAbove_mono {lo lo' : Nat} {m : Memory} (h : Memory.sortedAbove lo' m = true) (hl : lo ≤ lo') :
    Memory.sortedAbove lo m = true := by
  cases m with
  | nil => rfl
  | cons c m =>
    obtain ⟨x, v⟩ := c
    simp only [Memory.sortedAbove, Bool.and_eq_true, decide_eq_true_eq] at h ⊢
    exact ⟨⟨⟨le_trans hl h.1.1.1, h.1.1.2⟩, h.1.2⟩, h.2⟩

/-- Below the first address of a sorted list every byte reads 00h. -/
theorem read_below_sorted {lo a : Nat} {m : Memory} (h : Memory.sortedAbove lo m = true) (ha : a < lo) :
    Memory.read m a = 0 := by
  induction m generalizing lo with
  | nil => rfl
  | cons c m ih =>
    obtain ⟨x, v⟩ := c
    simp only [Memory.sortedAbove, Bool.and_eq_true, decide_eq_true_eq] at h
    have hx : ¬ a = x := by omega
    simp only [Memory.read, hx, if_false]
    exact ih h.2 (by omega)

/-- A byte written inside packet memory keeps the canonical form. -/
theorem write_sortedAbove {lo a : Nat} {m : Memory} {b : Byte} (h : Memory.sortedAbove lo m = true) (hl : lo ≤ a)
    (ha : a < Config.memorySize) : Memory.sortedAbove lo (m.write a b) = true := by
  induction m generalizing lo with
  | nil =>
    by_cases hb : b = 0#8
    · simp [Memory.write, hb, Memory.sortedAbove]
    · simp [Memory.write, hb, Memory.sortedAbove, hl, ha]
  | cons c m ih =>
    obtain ⟨x, v⟩ := c
    have h0 := h
    simp only [Memory.sortedAbove, Bool.and_eq_true, decide_eq_true_eq] at h
    obtain ⟨⟨⟨hlx, hx⟩, hv⟩, hm⟩ := h
    have hv : ¬ v = 0#8 := hv
    rcases Nat.lt_trichotomy a x with hax | hax | hax
    · by_cases hb : b = 0#8
      · simpa [Memory.write, hax, hb] using h0
      · simp [Memory.write, hax, hb, Memory.sortedAbove, hl, ha, hx, hv, hm, Nat.succ_le_of_lt hax]
    · subst hax
      by_cases hb : b = 0#8
      · simpa [Memory.write, hb] using sortedAbove_mono hm (by omega : lo ≤ a + 1)
      · simp [Memory.write, hb, Memory.sortedAbove, hl, ha, hm]
    · have h1 : ¬ a < x := by omega
      have h2 : ¬ a = x := by omega
      simp [Memory.write, h1, h2, Memory.sortedAbove, hlx, hx, hv, ih hm (by omega)]

/-- A read after a write: the byte written at its address, every other byte as before (on a canonical memory). -/
theorem read_write {lo a : Nat} {m : Memory} {b : Byte} (h : Memory.sortedAbove lo m = true) (x : Nat) :
    Memory.read (m.write a b) x = if x = a then b else Memory.read m x := by
  induction m generalizing lo with
  | nil =>
    by_cases hb : b = 0#8
    · by_cases hx : x = a <;> simp [Memory.write, hb, Memory.read]
    · simp [Memory.write, hb, Memory.read]
  | cons c m ih =>
    obtain ⟨y, v⟩ := c
    simp only [Memory.sortedAbove, Bool.and_eq_true, decide_eq_true_eq] at h
    obtain ⟨⟨⟨_, _⟩, _⟩, hm⟩ := h
    rcases Nat.lt_trichotomy a y with hay | hay | hay
    · by_cases hb : b = 0#8
      · by_cases hx : x = a
        · subst hx
          have hxy : ¬ x = y := by omega
          simp [Memory.write, hay, hb, Memory.read, hxy, read_below_sorted hm (by omega : x < y + 1)]
        · simp [Memory.write, hay, hb, hx]
      · simp [Memory.write, hay, hb, Memory.read]
    · subst hay
      by_cases hb : b = 0#8
      · by_cases hx : x = a
        · subst hx
          simp [Memory.write, hb, read_below_sorted hm (by omega : x < x + 1)]
        · simp [Memory.write, hb, Memory.read, hx]
      · by_cases hx : x = a <;> simp [Memory.write, hb, Memory.read, hx]
    · have h1 : ¬ a < y := by omega
      have h2 : ¬ a = y := by omega
      by_cases hxy : x = y
      · subst hxy
        have hxa : ¬ x = a := by omega
        simp [Memory.write, h1, h2, Memory.read, hxa]
      · simp [Memory.write, h1, h2, Memory.read, hxy, ih hm]

/-- Bytes written inside packet memory keep the canonical form. -/
theorem writeBytes_sortedAbove {lo a : Nat} {m : Memory} {bs : List Byte} (h : Memory.sortedAbove lo m = true)
    (hl : lo ≤ a) (ha : a + bs.length ≤ Config.memorySize) :
    Memory.sortedAbove lo (m.writeBytes a bs) = true := by
  induction bs generalizing a m with
  | nil => exact h
  | cons b bs ih =>
    simp only [List.length_cons] at ha
    exact ih (write_sortedAbove h hl (by omega)) (by omega) (by omega)

/-- A read after bytes are written: the bytes in order from the address on, every other byte as before. -/
theorem read_writeBytes {a : Nat} {m : Memory} {bs : List Byte} (h : m.wf = true)
    (ha : a + bs.length ≤ Config.memorySize) (x : Nat) :
    Memory.read (m.writeBytes a bs) x =
      if a ≤ x ∧ x < a + bs.length then bs.getD (x - a) 0 else Memory.read m x := by
  induction bs generalizing a m with
  | nil =>
    have hx : ¬ (a ≤ x ∧ x < a + 0) := by omega
    simp [Memory.writeBytes]
  | cons b bs ih =>
    simp only [List.length_cons] at ha
    have hw : (m.write a b).wf = true := write_sortedAbove h (Nat.zero_le _) (by omega)
    rw [Memory.writeBytes, ih hw (by omega), read_write h x]
    simp only [List.length_cons]
    rcases Nat.lt_trichotomy x a with hx | hx | hx
    · have h1 : ¬ (a + 1 ≤ x ∧ x < a + 1 + bs.length) := by omega
      have h2 : ¬ (a ≤ x ∧ x < a + (bs.length + 1)) := by omega
      have h3 : ¬ x = a := by omega
      simp only [h1, h2, h3, if_false]
    · subst hx
      simp
    · have h3 : ¬ x = a := by omega
      by_cases h4 : x < a + (bs.length + 1)
      · have h1 : a + 1 ≤ x ∧ x < a + 1 + bs.length := by omega
        have h2 : a ≤ x ∧ x < a + (bs.length + 1) := by omega
        have h5 : x - a = (x - (a + 1)) + 1 := by omega
        simp only [h1, h2, if_true, and_self]
        rw [h5]
        simp
      · have h1 : ¬ (a + 1 ≤ x ∧ x < a + 1 + bs.length) := by omega
        have h2 : ¬ (a ≤ x ∧ x < a + (bs.length + 1)) := by omega
        simp only [h1, h2, h3, if_false]

/-- A write of at most 64 bytes inside one buffer keeps the canonical form (R1, R21). -/
theorem writeBuffer_wf (s : State) (d : DescId) (o : Nat) (bs : List Byte) (h : s.mem.wf = true)
    (hl : o + bs.length ≤ Config.bufferSize) : (s.writeBuffer d o bs).mem.wf = true := by
  have hd := d.isLt
  refine writeBytes_sortedAbove h (Nat.zero_le _) ?_
  simp only [bufferAddr, Config.bufferSize, Config.memorySize] at *
  omega

/-- What a write of at most 64 bytes inside one buffer does to every byte of packet memory (R1, R21). -/
theorem writeBuffer_read (s : State) (d : DescId) (o : Nat) (bs : List Byte) (h : s.mem.wf = true)
    (hl : o + bs.length ≤ Config.bufferSize) (a : Nat) :
    (s.writeBuffer d o bs).mem.read a =
      if bufferAddr d o ≤ a ∧ a < bufferAddr d o + bs.length then bs.getD (a - bufferAddr d o) 0
      else s.mem.read a := by
  have hd := d.isLt
  refine read_writeBytes h ?_ a
  simp only [bufferAddr, Config.bufferSize, Config.memorySize] at *
  omega

theorem reset_memory_wf : State.reset.mem.wf = true := rfl

end Sys2Proof.Machine
end

