-- ==== Sys2Proof/Tests/Slice0.lean ====
section
/-! SUPPORT. Tests: ill-formed terms, the spec's worked examples, and for each statement with hypotheses a state and
operands that meet them. -/

namespace Sys2Proof.Tests

open Sys2Proof Sys2Proof.Machine Sys2Proof.Safety

set_option Elab.async false

/-! ## Small states -/

/-- A field of the state a command leaves, `d` when it leaves none. -/
def after {α : Type} (c : Instr) (s : State) (g : State → α) (d : α) : α :=
  match exec c s with
  | .next t => g t
  | _ => d

/-- Station 5 right after a reset but for its station state, RXD long high. -/
def inState (x : StationState) : State := { State.reset with station := x, ownAddr := 5, sinceLow := 161 }

/-- TXn toward station 3, channel 1; submit queue 0, notice queue 4. -/
def txDef : TxDef := { station := 3, channel := 1, submit := 0, notice := 4 }

/-- RXn with head pool 5, body pool 6, delivery queue 7. -/
def rxDef (p : Policy) : RxDef := { headPool := 5, bodyPool := 6, delivery := 7, policy := p, patience := 2 }

/-- A transmit channel with message 9 in hand, sent once. -/
def sendingTx : TxChan :=
  { TxChan.reset with defn := some txDef, state := .active, msg := some 9, cur := some 9, attempts := 1,
                      outstanding := true }

/-- A receive channel assembling from station 3 in descriptor 30. -/
def assemblingRx : RxChan :=
  { RxChan.reset with defn := some (rxDef .refuse), state := .assembling, source := some 3,
                      part := some { head := 30, tail := 30, count := 1, length := 64 } }

/-- The state with the turn of a station, a timer running. -/
def inTurn (s : State) (a : Station) (t : Timer) : State :=
  { s with turn := { s.turn with counter := a, timer := t } }

/-- ONLINE, in turn `a`, hearing a frame that began in this place. -/
def hearing (b : Began) (a : Station) : State :=
  { inTurn (inState .online) a .stopped with line := .receiving { began := b, counted := true, remainder := false } }

/-- ONLINE, sending a frame in the own turn. -/
def sending (f : Frame) : State := { inTurn (inState .online) 5 .stopped with line := .sending f }

/-- The DATA frame of station 3 to RX1 of station 5. -/
def dataFrame (label : Option Byte) (last : Bool) (payload : List Byte) : DataFrame :=
  { source := 3, destination := 5, channel := 1, tally := 6, label := label, last := last, payload := payload }

/-- The REPLY of station 3 to a segment sent with tally 0. -/
def replyFrame (code : ReplyCode) : Frame :=
  .reply { source := 3, destination := 5, channel := 1, tallyEcho := 0, code := code }

/-- TX0 has message 9 of two descriptors in hand. -/
def sendingMsg (c : TxChan) (s : State) : State :=
  ((s.setDesc 9 { Desc.reset with next := some 10, returnQueue := 8, owner := .transit 0 }).setOwner 10
    (.transit 0)).setTx 0 c

/-- TX0 ACTIVE in doubt, nothing outstanding. -/
def doubtfulTx : TxChan := { sendingTx with outstanding := false, doubt := true, tally := 15 }

/-- RX1 assembling from station 3 in descriptors 30 and 31. -/
def partialIn (s : State) : State :=
  let s := s.setDesc 30 { Desc.reset with fill := 64, next := some 31, owner := .building 1 }
  (s.setDesc 31 { Desc.reset with fill := 64, owner := .building 1 }).setRx 1
    { assemblingRx with part := some { head := 30, tail := 31, count := 2, length := 128 }, idle := 1 }

/-- Message 9 of TX0 alone. -/
def msgs0 (n : ChanId) : List DescId := if n = 0 then [9, 10] else []

/-- Partial 30 of RX1 alone. -/
def parts1 (n : ChanId) : List DescId := if n = 1 then [30, 31] else []

/-- Queue 31 is the marker pool and holds descriptor 90. -/
def withMarker (s : State) : State :=
  ({ s with cfg := { s.cfg with markerPool := 31 } }.setOwner 90 (.queued 31)).setQueue 31 [90]

/-! ## Ill-formed terms -/

theorem test_wellformed_schedule : wellFormed (.defineSchedule 2 [0, 1]) = true ∧
    wellFormed (.defineSchedule 2 [0]) = false ∧ wellFormed (.defineSchedule 0 [0]) = false := by decide

theorem test_wellformed_writeBuffer : wellFormed (.writeBuffer 255 63 1 [7]) = true ∧
    wellFormed (.writeBuffer 0 0 1 []) = false ∧ wellFormed (.writeBuffer 0 0 65 [1]) = false := by decide

theorem test_wellformed_unknownCommand : wellFormed (.unknownCommand 0xFF) = true ∧
    wellFormed (.unknownCommand 0x20) = false := by decide

theorem test_wellformed_abort : wellFormed (.transactionAbort [0x20, 1]) = true ∧
    wellFormed (.transactionAbort [0x20, 1, 2]) = false := by decide

theorem test_wellformed_frameEnd : wellFormed (.frameEnd [0x5A, 3, 0, 0]) = true ∧
    wellFormed (.frameEnd [0x5A, 3, 0]) = false ∧ wellFormed (.frameEnd [0x11, 0, 0, 0]) = false := by decide

theorem test_wellformed_skip : wellFormed (.entryToSkipping (.lengthAbove64 65)) = true ∧
    wellFormed (.entryToSkipping (.lengthAbove64 64)) = false ∧
    wellFormed (.entryToSkipping (.unknownKind 0x6C)) = false := by decide

/-! ## The spec's worked values -/

/-- Section 3.4. -/
theorem test_crc_check : crc [0x31, 0x32, 0x33, 0x34, 0x35, 0x36, 0x37, 0x38, 0x39] = 0x29B1#16 := by decide +kernel

/-- Section 10.1: station 3's one-segment message of 3 bytes, label 5, tally 6, to RX2 of station 8. -/
theorem test_data_frame_bytes :
    let f : Frame := .data { source := 3, destination := 8, channel := 2, tally := 6, label := some 5, last := true,
                             payload := [1, 2, 3] }
    (encodeFrame f).take 10 = [0x6C, 0x03, 0x08, 0x02, 0xC6, 0x03, 0x05, 1, 2, 3] ∧ (encodeFrame f).length = 12 := by
  decide

/-- R191: the kind codes of PASS and REPLY, code LOST 05h. -/
theorem test_pass_reply_bytes : frameFields (.pass 15) = [0x5A, 15] ∧
    frameFields (replyFrame .lost) = [0x93, 3, 5, 1, 0, 5] := by decide

/-- R172, R193 and the command table of chapter 9: one transaction of each family. -/
theorem test_transactions :
    decodeTransaction [0x10, 2, 15, 1, 2, 3, 4] = .setLine 2 15 1 2 3 4 ∧
    decodeTransaction [0x13, 2, 0, 0xFF] = .defineSchedule 2 [0, 0xFF] ∧
    decodeTransaction [0x20, 4, 12, 0] = .push 4 12 ∧
    decodeTransaction [0x31, 12, 64, 40, 0, 9, 5] = .writeDesc 12 64 40 0 9 5 ∧
    decodeTransaction [0x33, 12, 0, 2, 7, 8] = .writeBuffer 12 0 2 [7, 8] ∧
    decodeTransaction [0x41] = .leave ∧ decodeTransaction [0x5B, 7] = .teardownRx 7 ∧
    decodeTransaction [0x64, 1] = .readCounters 1 ∧ decodeTransaction [0x7E] = .restart ∧
    decodeTransaction [0xFF] = .unknownCommand 0xFF := by decide

/-- Section 9.1, an interrupted buffer write: the first transaction is not taken. -/
theorem test_interrupted_write : decodeTransaction [0x33, 12, 0, 20, 1, 2, 3, 4, 5, 6, 7, 8, 9, 10, 11] =
    .transactionAbort [0x33, 12, 0, 20, 1, 2, 3, 4, 5, 6, 7, 8, 9, 10, 11] := by decide

/-- Descriptors 12, 40 and 41 as one chain on queue 9. -/
def popState : State :=
  (((inState .online).setDesc 12 { Desc.reset with next := some 40, owner := .queued 9 }).setDesc 40
    { Desc.reset with next := some 41, owner := .linked }).setDesc 41 { Desc.reset with owner := .linked }
  |>.setQueue 9 [12]

/-- Section 10.2, a POP transaction. -/
theorem test_pop_transaction :
    after (decodeTransaction [0x21, 0x09]) popState (fun t => (t.answer, (t.desc 41).owner)) ([], .linked)
      = ([0xA0, 0x0C, 0x03], .host) := by decide

/-- Section 7.2, a teardown completed at once. -/
def teardownState : State :=
  let d := fun (s : State) (i : DescId) (x : Option DescId) (rq : QueueId) (o : Owner) =>
    s.setDesc i { Desc.reset with next := x, returnQueue := rq, owner := o }
  let s := { inState .online with cfg := { LineConfig.reset with markerPool := 15 } }
  let s := d (d (d s 30 (some 31) 8 (.transit 2)) 31 (some 32) 0 (.transit 2)) 32 none 0 (.transit 2)
  let s := d (d (d s 40 none 8 (.queued 5)) 44 none 5 (.queued 5)) 47 none 8 (.queued 5)
  let s := d (d s 20 none 0 (.queued 8)) 90 none 0 (.queued 15)
  let s := ((s.setQueue 5 [40, 44, 47]).setQueue 8 [20]).setQueue 15 [90]
  s.setTx 2 { TxChan.reset with
    defn := some { station := 11, channel := 0, submit := 5, notice := 12 }, state := .active, msg := some 30,
    cur := some 31, tally := 9, doubt := true }

theorem test_teardown_queues :
    after (.teardownTx 2) teardownState (fun t => [t.queue 5, t.queue 8, t.queue 12, t.queue 15]) []
      = [[44], [20, 30, 40, 47], [90], []] := by decide

theorem test_teardown_marker :
    after (.teardownTx 2) teardownState (fun t =>
      ((t.desc 90).status, (t.desc 90).peer, (t.desc 90).total, (t.desc 44).status, (t.txc 2).state, (t.txc 2).tally))
      (.none, 0, 0, .none, .idle, 0)
      = (.marker, 11, 4, .cancelled, .disabled, 10) := by decide

/-- Section 6.6, a starved assembly under REFUSE: the turn end at which patience expires. -/
def starvedState : State :=
  let s := inTurn (inState .online) 9 .responseWindow
  let s := (s.setDesc 60 { Desc.reset with fill := 64, next := some 70, owner := .building 4 }).setDesc 70
    { Desc.reset with fill := 64, owner := .building 4 }
  s.setRx 4 { RxChan.reset with
    defn := some { headPool := 10, bodyPool := 11, delivery := 2, policy := .refuse, patience := 3 },
    state := .assembling, source := some 9, part := some { head := 60, tail := 70, count := 2, length := 128 },
    idle := 2 }

theorem test_patience_expires :
    after .responseWindowExpiry starvedState
      (fun t => ((t.rxc 4).state, (t.rxc 4).abandons, t.queue 10, t.queue 11, (t.desc 60).next, (t.desc 70).fill))
      (.disabled, 0, [], [], none, 64)
      = (.idle, 1, [60], [70], none, 0) := by decide

/-- Section 5.2, own turn 2: the scan from entry 1 finds TX0 at entry 3 and leaves the cursor at 4. -/
def scanState : State :=
  let s := { inTurn (inState .online) 4 .turnGap with
    cursor := 1
    cfg := { LineConfig.reset with
      length := 5
      schedule := put (put (put (put LineConfig.reset.schedule 0 (some 0)) 1 (some 1)) 3 (some 0)) 4 (some 2) } }
  (s.setTx 0 sendingTx).setTx 1 { TxChan.reset with defn := some { txDef with submit := 1 }, state := .idle }

theorem test_schedule_scan :
    after .turnGapExpiry scanState (fun t => (t.cursor, (t.txc 0).attempts, t.request.map Frame.source)) (0, 0, none)
      = (4, 2, some 5) := by decide

/-- Section 4.3, a slip after a missed frame: the counter becomes 5 and SLIP is set. -/
theorem test_slip :
    let s := { hearing .gap 4 with ownAddr := 7 }
    let f : Frame := .data { source := 5, destination := 2, channel := 0, tally := 0, label := none, last := true,
                             payload := [1] }
    after (.frameEnd (encodeFrame f)) s (fun t => (t.turn.counter, t.events.slip, t.turn.timer)) (0, false, .stopped)
      = (5, true, .responseWindow) := by decide +kernel

/-- Section 11.6: JOIN, then the first PASS heard is adopted with quiet count 2. -/
theorem test_adoption :
    let s := { inState .listening with
      ownAddr := 8, line := .receiving { began := .other, counted := true, remainder := false } }
    after (.frameEnd (encodeFrame (.pass 5))) s (fun t => (t.station, t.turn.quiet, t.turn.counter)) (.listening, 0, 0)
      = (.online, 2, 6) := by decide +kernel

/-- R172, section 10.2: SDO carries 00h until the POP is taken, then the status, the results and 00h; with CS# high it is
released. -/
theorem test_sdo :
    let s := { popState with answer := [0xA0#8, 0x0C#8, 0x03#8] }
    [none, some [], some [0x21], some [0x21, 9], some [0x21, 9, 0], some [0x21, 9, 0, 0], some [0x21, 9, 0, 0, 0]].map s.sdo
      = [none, some 0, some 0, some 0xA0, some 0x0C, some 0x03, some 0] := by decide +kernel

/-- R180: with CS# low when the reset ends, the transaction that stands is ignored and the next one is taken. -/
theorem test_reset_csLow :
    after (.hardReset false false false false true) State.reset (fun t =>
      after .startingEnd t (fun t => after .readStation t (fun u => (u.answer, after .readStation u (·.answer) [])) ([0], [])) ([0], []))
      ([0], []) = ([], [0xA0, 1, 0, 0, 0, 0, 0]) := by decide +kernel

/-- R56: RXD still low at the JOIN starts the line interface in SKIPPING, however long ago the level fell. -/
theorem test_join_rxdLow :
    after (.rxdLowWhileHeld true) (inState .offline) (fun s => match step s with
      | .next t => after .join { t with sinceLow := 161 } (·.line) .quiet
      | _ => .quiet) .quiet = .skipping { began := .other, counted := false, remainder := false } := by decide +kernel

/-- R77: the REPLY that ends the own turn in LEAVING makes its source PRESENT, and the station is then OFFLINE. -/
theorem test_leaving_reply :
    let s := { sendingMsg sendingTx (hearing .window 5) with station := .leaving }
    after (.frameEnd (encodeFrame (replyFrame .taken))) s (fun t => (t.station, (t.rosterOf 3).state, (t.txc 0).cur))
      (.leaving, .unknown, none) = (.offline, .present, some 9) := by decide +kernel

/-- R147, R155: a message in hand whose return queue is its own submit queue is one cancelled message. -/
theorem test_teardown_counts_once :
    let s := withMarker ((sendingMsg { doubtfulTx with doubt := false } (inState .online)).setDesc 9
      { Desc.reset with next := some 10, returnQueue := 0, owner := .transit 0 })
    after (.teardownTx 0) s (fun t => ((t.desc 90).total, t.queue 0, t.queue 4)) (0, [], []) = (1, [9], [90]) := by
  decide +kernel

/-! ## Hypotheses that can be met, one theorem for each statement that has some; the disjuncts of one hypothesis and the
clauses stand one after the other -/

theorem test_witness_StepRunsFrontCommand :
    { inState .online with pending := [.leave, .fix] }.pending = .leave :: [.fix] ∧ State.reset.pending = [] := by
  decide +kernel

theorem test_witness_StartingEndAndRestart : State.reset.station = .starting ∧ portTakes (inState .leaving) = true :=
  by decide +kernel

/-- The highest values in range, and the lowest out of range. -/
theorem test_witness_DefinitionsStored :
    (inState .unconfigured).portSkips = false ∧ (inState .unconfigured).station = .unconfigured
    ∧ (3#8).toNat = (3 : Fin 4).val ∧ (31#8).toNat = (31 : QueueId).val ∧ 4 ≤ (4#8).toNat ∧ 32 ≤ (32#8).toNat
    ∧ (7#8).toNat = (7 : ChanId).val ∧ (15#8).toNat = (15 : Station).val ∧ (15 : Station) ≠ (inState .unconfigured).ownAddr
    ∧ 8 ≤ (8#8).toNat ∧ 16 ≤ (16#8).toNat ∧ (5#8).toNat = (inState .unconfigured).ownAddr.val
    ∧ (0x01#8) = (match Policy.drop with | .refuse => 0x00#8 | .drop => 0x01#8) ∧ (255#8) ≠ 0 ∧ 2 ≤ (2#8).toNat := by
  decide +kernel

theorem test_witness_ScheduleReplaced :
    (inState .unconfigured).portSkips = false ∧ (inState .unconfigured).station = .unconfigured ∧ 32 < (33#8).toNat ∧ (1 ≤ (1#8).toNat ∧ (1#8).toNat ≤ 32)
    ∧ ([7#8] : List Byte).length = (1#8).toNat ∧ (8 ≤ (8#8).toNat ∧ (8#8) ≠ 0xFF#8)
    ∧ (∀ b ∈ [7#8], b.toNat < 8 ∨ b = 0xFF#8) ∧ (∀ b ∈ [0xFF#8], b.toNat < 8 ∨ b = 0xFF#8) := by decide +kernel

/-- UNCONFIGURED with TX0 defined and named by the one entry of the schedule: every check of FIX passes. -/
def fixable : State :=
  let s := (inState .unconfigured).setTx 0 { TxChan.reset with defn := some txDef }
  { s with cfg := { LineConfig.reset with markerPool := 15, schedule := put LineConfig.reset.schedule 0 (some 0) } }

theorem test_witness_FixChecksThenFreezes :
    let named : State → ChanId → Prop := fun s n => ∃ e : Fin 32, e.val < s.cfg.length ∧ look s.cfg.schedule e = some n
    fixable.portSkips = false ∧ fixable.station = .unconfigured ∧ fixable.cfg.length ≤ 32 ∧ named fixable 0
    ∧ (∀ n, n ≠ 0 → (fixable.txc n).defn = none) ∧ (∀ n, (fixable.rxc n).defn = none)
    ∧ (fixable.txc 0).defn = some txDef ∧ txDef.submit ≠ fixable.cfg.markerPool
    ∧ (inState .unconfigured).cfg.length ≤ 32 ∧ ∀ n, ¬ named (inState .unconfigured) n := by decide +kernel

theorem test_witness_ConfigurationFrozenAfterFix :
    isConfigCommand (.defineSchedule 1 [0]) = true ∧ wellFormed (.defineSchedule 1 [0]) = true
    ∧ portTakes (inState .online) = true ∧ (inState .online).station ≠ .unconfigured
    ∧ isReset .leave = false ∧ exec .fix (inState .offline) = .next { inState .offline with answer := [0xA2#8] } := by
  refine ⟨by decide +kernel, by decide +kernel, by decide +kernel, by decide +kernel, by decide +kernel, rfl⟩

/-- Descriptors 255 and 0 as one chain of the host. -/
def chained : State := (inState .online).setDesc 255 { Desc.reset with next := some 0, fill := 64, returnQueue := 9 }

theorem test_witness_PushQueuesChain :
    portTakes chained = true ∧ (31#8).toNat = (31 : QueueId).val ∧ (255#8).toNat = (255 : DescId).val
    ∧ isChain chained (255 :: [0]) = true ∧ allOwned chained (255 :: [0]) .host = true := by decide +kernel

/-- A chain of the host over the descriptors 0 to `n`, in order. -/
def longChain (n : Nat) (s : State) : State :=
  (List.range n).foldl (fun s i => s.setDesc (Fin.ofNat 256 i) { Desc.reset with next := some (Fin.ofNat 256 (i + 1)) }) s

/-- A bad queue; an owned head; a chain that turns back; a chain of 17; a member that is not HOST. -/
theorem test_witness_PushChecksInOrder :
    portTakes (inState .online) = true ∧ portTakes (chained.setDesc 0 { Desc.reset with next := some 255 }) = true
    ∧ portTakes (longChain 16 (inState .online)) = true ∧ portTakes (chained.setOwner 0 .linked) = true
    ∧ portTakes chained = true ∧ 32 ≤ (32#8).toNat ∧ ((inState .online).setOwner 9 (.queued 0)).desc 9 ≠ Desc.reset
    ∧ (let s := chained.setDesc 0 { Desc.reset with next := some 255 }
       leadsTo s (255 :: [0]) 255 = true ∧ (255 :: [0] : List DescId).Nodup ∧ allOwned s (255 :: [0]) .host = true
       ∧ (255 : DescId) ∈ (255 :: [0] : List DescId))
    ∧ (let s := longChain 16 (inState .online)
       let l : List DescId := (List.range 16).map (Fin.ofNat 256)
       leadsTo s l 16 = true ∧ l.Nodup ∧ l.length = 16 ∧ allOwned s l .host = true ∧ (16 : DescId) ∉ l)
    ∧ (let s := chained.setOwner 0 .linked
       leadsTo s (255 :: []) 0 = true ∧ allOwned s (255 :: []) .host = true ∧ (s.desc 0).owner ≠ .host)
    ∧ isChain chained (255 :: [0]) = true := by decide +kernel

theorem test_witness_PopHandsChainToHost :
    portTakes popState = true ∧ popState.queue 9 = 12 :: [] ∧ isChain popState (12 :: [40, 41]) = true
    ∧ popState.queue 31 = [] ∧ (31#8).toNat = (31 : QueueId).val ∧ 32 ≤ (32#8).toNat := by decide +kernel

theorem test_witness_QueueAndDescriptorReads :
    portTakes (inState .unconfigured) = true ∧ (31#8).toNat = (31 : QueueId).val ∧ 32 ≤ (32#8).toNat
    ∧ (255#8).toNat = (255 : DescId).val := by decide +kernel

theorem test_witness_WriteDescWritesFourFields :
    portTakes (inState .offline) = true ∧ (255#8).toNat = (255 : DescId).val ∧ 64 < (65#8).toNat
    ∧ (0x02#8 ≠ 0x00#8 ∧ 0x02#8 ≠ 0x01#8) ∧ 31 < (32#8).toNat ∧ (64#8).toNat ≤ 64 ∧ (31#8).toNat = (31 : QueueId).val
    ∧ (some (255 : DescId)).map (·.val) = some (255#8).toNat ∧ ((inState .offline).desc 255).owner = .host
    ∧ (popState.desc 12).owner ≠ .host := by decide +kernel

theorem test_witness_BufferReadAndWrite :
    portTakes (inState .offline) = true ∧ (255#8).toNat = (255 : DescId).val ∧ 63 < (64#8).toNat
    ∧ 64 < (63#8).toNat + (2#8).toNat ∧ 1 ≤ (1#8).toNat ∧ (63#8).toNat + (1#8).toNat ≤ 64
    ∧ ((inState .offline).desc 255).owner = .host ∧ (popState.desc 12).owner ≠ .host ∧ (inState .offline).mem.wf = true
    ∧ ([] : List Byte).length < (1#8).toNat ∧ ([7#8] : List Byte).length = (if (1#8).toNat ≤ 64 then (1#8).toNat else 0)
    ∧ ([] : List Byte).length = (if (65#8).toNat ≤ 64 then (65#8).toNat else 0) := by decide +kernel

/-- OFFLINE with RXD low 20 bit times ago at rate code 0, half a microsecond longer ago, and still. -/
theorem test_witness_JoinStartsListening :
    (inState .offline).portSkips = false ∧ (inState .offline).station = .offline ∧ (inState .offline).rxdLow = false
    ∧ 20 * Config.bitTime (inState .offline).cfg.rate < (inState .offline).sinceLow
    ∧ { inState .offline with sinceLow := 160 }.sinceLow ≤ 20 * Config.bitTime (inState .offline).cfg.rate
    ∧ { inState .offline with rxdLow := true }.rxdLow = true ∧ (inState .online).station ≠ .offline
    ∧ State.reset.portSkips = false ∧ State.reset.station ≠ .offline := by decide +kernel

/-- ONLINE in the own turn with the segment of TX0 outstanding. -/
def outstandingState : State := (hearing .window 5).setTx 0 sendingTx

theorem test_witness_LeaveByStationState :
    (∀ s ∈ [inState .leaving, outstandingState, partialIn (inState .listening),
        partialIn (sendingMsg doubtfulTx (inState .online))], s.portSkips = false)
    ∧ (inState .leaving).station = .leaving ∧ outstandingState.station = .online
    ∧ onlyOutstanding outstandingState 0 = true
    ∧ (let s := partialIn (inState .listening)
       s.station = .listening ∧ ending s (fun _ => false) RxChan.busy (fun _ => []) parts1 = true)
    ∧ (let s := partialIn (sendingMsg doubtfulTx (inState .online))
       s.station = .online ∧ nothingOutstanding s = true ∧ ending s TxChan.doubt RxChan.busy msgs0 parts1 = true) := by
  decide +kernel

theorem test_witness_ChannelCommandChecks :
    8 ≤ (8#8).toNat ∧ (7#8).toNat = (7 : ChanId).val ∧ (inState .unconfigured).station = .unconfigured
    ∧ portTakes (inState .online) = true ∧ ((inState .online).txc 7).defn = none
    ∧ ((inState .online).rxc 7).defn = none := by decide +kernel

theorem test_witness_ChannelsOpened :
    let t : TxChan := { TxChan.reset with defn := some txDef }
    let r : RxChan := { RxChan.reset with defn := some (rxDef .drop) }
    let s := ((inState .offline).setTx 7 t).setRx 7 r
    let u := ((inState .offline).setTx 7 { t with state := .halted }).setRx 7 { r with state := .halted }
    (7#8).toNat = (7 : ChanId).val ∧ portTakes s = true ∧ s.station ≠ .unconfigured
    ∧ (s.txc 7).defn ≠ none ∧ (s.rxc 7).defn ≠ none
    ∧ (s.txc 7).state = .disabled ∧ (s.txc 7).state ≠ .halted ∧ (u.txc 7).state = .halted
    ∧ (s.rxc 7).state = .disabled ∧ (s.rxc 7).state ≠ .halted ∧ (u.rxc 7).state = .halted := by decide +kernel

/-- TX0 IDLE with one message of two descriptors on its submit queue, and a marker. -/
def flushable : State :=
  let s := { inState .online with cfg := { LineConfig.reset with markerPool := 31 } }
  let s := (s.setDesc 9 { Desc.reset with next := some 10, returnQueue := 8, owner := .queued 0 }).setOwner 10 .linked
  let s := ((s.setOwner 90 (.queued 31)).setQueue 31 [90]).setQueue 0 [9]
  s.setTx 0 { TxChan.reset with defn := some txDef, state := .idle }

theorem test_witness_TeardownFlushesSubmitQueue :
    portTakes flushable = true ∧ flushable.station ≠ .unconfigured ∧ (flushable.txc 0).defn = some txDef
    ∧ (flushable.txc 0).state = .idle ∧ (flushable.txc 0).msg = none ∧ (8 : QueueId) ≠ txDef.submit
    ∧ (8 : QueueId) ≠ flushable.cfg.markerPool ∧ (8 : QueueId) ≠ txDef.notice
    ∧ txDef.submit ≠ flushable.cfg.markerPool ∧ txDef.submit ≠ txDef.notice ∧ flushable.queue txDef.submit = [9]
    ∧ (flushable.queue txDef.submit).Nodup
    ∧ allOwned flushable (flushable.queue txDef.submit) (.queued txDef.submit) = true
    ∧ (flushable.desc 9).returnQueue = 8 ∧ allOwned flushable (flushable.chain 9).tail .linked = true
    ∧ flushable.queue flushable.cfg.markerPool = 90 :: [] ∧ (flushable.desc 90).next = none
    ∧ 90 ∉ flushable.queue txDef.submit ∧ (flushable.desc 90).owner ≠ .linked
    ∧ (outstandingState.txc 0).state = .active ∧ (outstandingState.txc 0).outstanding = true
    ∧ (outstandingState.txc 1).state = .disabled := by decide +kernel

/-- TX0 ACTIVE with message 9 of two descriptors in hand, doubt set, nothing outstanding. -/
def doubtful : State := sendingMsg doubtfulTx (inState .online)

theorem test_witness_TeardownCancelsMessageInHand :
    let s := { doubtful with cfg := { LineConfig.reset with markerPool := 31 } }
    portTakes s = true ∧ s.station ≠ .unconfigured ∧ (s.txc 0).defn = some txDef ∧ (s.txc 0).state = .active
    ∧ (s.txc 0).outstanding = false ∧ (s.txc 0).msg = some 9 ∧ isChain s (9 :: [10]) = true
    ∧ s.queue txDef.submit = [] ∧ s.queue s.cfg.markerPool = [] ∧ (s.desc 9).returnQueue ≠ txDef.submit
    ∧ (s.desc 9).returnQueue ≠ s.cfg.markerPool := by decide +kernel

/-- RX1 assembling from station 3 in descriptors 30 and 31, with the turn of station 3 on. -/
def assemblingState : State := partialIn (hearing .gap 3)

theorem test_witness_AbandonedPartialReturns :
    portTakes assemblingState = true ∧ portTakes (inState .offline) = true ∧ assemblingState.station ≠ .unconfigured
    ∧ assemblingState.station = .online ∧ (assemblingState.rxc 1).defn = some (rxDef .refuse)
    ∧ (assemblingState.rxc 1).state = .assembling
    ∧ (assemblingState.rxc 1).part = some { head := 30, tail := 31, count := 2, length := 128 }
    ∧ isChain assemblingState (30 :: [31]) = true
    ∧ (assemblingState.rxc 1).source = some assemblingState.turn.counter ∧ (assemblingState.rxc 1).progress = false
    ∧ (rxDef .refuse).patience = (assemblingState.rxc 1).idle + 1
    ∧ (let s := (inState .offline).setRx 1 { RxChan.reset with defn := some (rxDef .drop), state := .discarding }
       s.station ≠ .unconfigured ∧ (s.rxc 1).state = .discarding ∧ (s.rxc 1).part = none)
    ∧ (let s := (inState .offline).setRx 1 { RxChan.reset with defn := some (rxDef .drop), state := .idle }
       (s.rxc 1).state = .idle)
    ∧ (let s := (inState .offline).setRx 1 { RxChan.reset with defn := some (rxDef .drop), state := .halted }
       (s.rxc 1).state = .halted) := by decide +kernel

theorem test_witness_TeardownRxReturnsPartial :
    let s := { assemblingState with cfg := { LineConfig.reset with markerPool := 31 } }
    let m := withMarker assemblingState
    let u := (flushable.setRx 1 { RxChan.reset with defn := some (rxDef .drop), state := .halted })
    (∀ v ∈ [s, m, u], portTakes v = true ∧ v.station ≠ .unconfigured)
    ∧ (∀ v ∈ [s, m], (v.rxc 1).defn = some (rxDef .refuse) ∧ (v.rxc 1).state = .assembling
      ∧ (v.rxc 1).part = some { head := 30, tail := 31, count := 2, length := 128 } ∧ isChain v (30 :: [31]) = true)
    ∧ s.queue s.cfg.markerPool ++ partialTo (rxDef .refuse) (30 :: [31]) s.cfg.markerPool = []
    ∧ m.queue m.cfg.markerPool ++ partialTo (rxDef .refuse) (30 :: [31]) m.cfg.markerPool = 90 :: []
    ∧ (let p := { s with cfg := { LineConfig.reset with markerPool := 5 } }
       p.queue p.cfg.markerPool ++ partialTo (rxDef .refuse) (30 :: [31]) p.cfg.markerPool = 30 :: [])
    ∧ (u.rxc 1).defn = some (rxDef .drop) ∧ (u.rxc 1).state ≠ .disabled ∧ (u.rxc 1).part = none
    ∧ u.queue u.cfg.markerPool = 90 :: [] ∧ (let w := u.setQueue 31 []
       (w.rxc 1).part = none ∧ w.queue w.cfg.markerPool = [])
    ∧ ((inState .online).rxc 1).state = .disabled := by decide +kernel

theorem test_witness_StatusReadsReturnContexts :
    portTakes (inState .listening) = true ∧ 8 ≤ (8#8).toNat ∧ (7#8).toNat = (7 : ChanId).val := by decide +kernel

theorem test_witness_CountersAndEventsReadAndCleared :
    portTakes (inState .unconfigured) = true ∧ (2#8 ≠ 0x00#8 ∧ 2#8 ≠ 0x01#8) ∧ (1#8 = 0x00#8 ∨ 1#8 = 0x01#8) := by
  decide +kernel

theorem test_witness_TransactionsWithoutEffect :
    (inState .online).portSkips = false ∧ isCommandCode 0x66#8 = false ∧ isCommandCode 0x7E#8 = true
    ∧ { State.reset with portSkips := true }.portSkips = true ∧ isHostCommand (.pop 31) = true
    ∧ wellFormed (.pop 31) = true ∧ commandTaken [0x21] = false ∧ encodeTransaction (.pop 31) = some [0x21, 31] := by
  decide +kernel

theorem test_witness_FrameStartsAndSkips :
    (inState .leaving).station = .leaving ∧ (inState .leaving).line = .quiet
    ∧ ((inState .offline).station ≠ .listening ∧ (inState .offline).station ≠ .online
        ∧ (inState .offline).station ≠ .leaving)
    ∧ (hearing .gap 3).line = .receiving { began := .gap, counted := true, remainder := false }
    ∧ (hearing .gap 3).request = none ∧ skipCauseHolds (.lengthAbove64 65) = true := by decide +kernel

theorem test_witness_HeardFrameOpensItsTurn :
    let f : DataFrame := { dataFrame none true [1] with source := 15, destination := 0 }
    (∀ s ∈ [hearing .gap 15, (hearing .gap 15).setRoster 15 { state := .absent, misses := 2 }],
      onlineHearing s .gap = true ∧ 15 = s.turn.counter ∧ 15 ≠ s.ownAddr ∧ 15 + 1 ≠ s.ownAddr
      ∧ patienceLasts s 15 = true)
    ∧ decodeFrame (encodeFrame (.pass 15)) = some (.pass 15)
    ∧ decodeFrame (encodeFrame (.data f)) = some (.data f) ∧ f.source = 15 ∧ f.destination ≠ (hearing .gap 15).ownAddr := by
  decide +kernel

theorem test_witness_ListeningAdoptsPass :
    let h : Heard := { began := .other, counted := true, remainder := false }
    let s := { inState .listening with line := .receiving h }
    let r := { s with turn := { s.turn with flavour := .resync } }
    let mine : DataFrame := dataFrame none true [1]
    (∀ v ∈ [s, r], v.station = .listening ∧ v.line = .receiving h ∧ v.request = none
      ∧ (∀ b : Station, patienceLasts v b = true) ∧ nothingOutstanding v = true)
    ∧ s.turn.flavour = .joining ∧ r.turn.flavour = .resync ∧ 4 + 1 = r.ownAddr
    ∧ (∀ m, cannotSend r m = true) ∧ (∀ m, (r.txc m).defn = none)
    ∧ (∀ b ∈ [3, 4, (5 : Station)], decodeFrame (encodeFrame (.pass b)) = some (.pass b))
    ∧ decodeFrame (encodeFrame (.data mine)) = some (.data mine) ∧ mine.destination = s.ownAddr
    ∧ { mine with destination := 6 }.destination ≠ r.ownAddr
    ∧ decodeFrame (encodeFrame (replyFrame .lost)) = some (replyFrame .lost) := by decide +kernel

theorem test_witness_PassOutOfTurnSlips :
    let f : Station → DataFrame := fun b => { dataFrame none true [1] with source := b, destination := 0 }
    (∀ w ∈ [Began.gap, .window], onlineHearing (hearing w 4) w = true ∧ (hearing w 4).request = none
      ∧ nothingOutstanding (hearing w 4) = true ∧ (∀ b : Station, patienceLasts (hearing w 4) b = true)
      ∧ nothingFrom (hearing w 4) 4 = true)
    ∧ (∀ b ∈ [15, (5 : Station)], b ≠ (hearing .gap 4).turn.counter ∧ b + 1 ≠ (hearing .gap 4).ownAddr
      ∧ decodeFrame (encodeFrame (.pass b)) = some (.pass b)
      ∧ decodeFrame (encodeFrame (.data (f b))) = some (.data (f b)) ∧ (f b).source = b
      ∧ (f b).destination ≠ (hearing .gap 4).ownAddr)
    ∧ onlineHearing (hearing .window 5) .window = true ∧ nothingOutstanding (hearing .window 5) = true
    ∧ (3 : Station) + 1 ≠ 5 ∧ (3 : Station) = (hearing .window 3).turn.counter := by decide +kernel

/-- ONLINE, hearing station 3, RX1 in this context, descriptor 33 chained to 34 on both pools. -/
def pooled (c : RxChan) (s : State) : State :=
  ((s.setDesc 33 { Desc.reset with next := some 34, owner := .queued 5 }).setOwner 34 .linked
    |>.setQueue 5 [33] |>.setQueue 6 [33]).setRx 1 c

/-- RX1 IDLE. -/
def idleRx : RxChan := { RxChan.reset with defn := some (rxDef .refuse), state := .idle }

/-- RX1 IDLE, DISCARDING from station 3, and assembling from it: the partial that ends, and the head pool then. -/
def firstTargets (s : State) : List (State × List DescId × DescId × List DescId) :=
  [(pooled idleRx s, [], 33, []), (pooled { idleRx with state := .discarding, source := some 3 } s, [], 33, []),
   (pooled ((partialIn s).rxc 1) (partialIn s), [30, 31], 33, [30]), (partialIn s, [30, 31], 30, [])]

theorem test_witness_FirstSegmentStored :
    let f := dataFrame (some 9) false (List.replicate 64 1)
    (∀ x ∈ firstTargets (hearing .gap 3),
      onlineHearing x.1 .gap = true ∧ x.1.turn.quiet = 0 ∧ x.1.mem.wf = true ∧ f.source = x.1.turn.counter
      ∧ f.source ≠ x.1.ownAddr ∧ f.destination = x.1.ownAddr ∧ (x.1.rosterOf f.source).state ≠ .absent
      ∧ (x.1.rxc f.channel).defn = some (rxDef .refuse)
      ∧ ((x.1.rxc f.channel).state = .idle ∨ (x.1.rxc f.channel).busyFrom f.source = true)
      ∧ partialAt x.1 (fun c => c.state == .assembling) f.channel x.2.1 = true
      ∧ x.1.tallyOf f.channel f.source ≠ some f.tally
      ∧ x.1.queue (rxDef .refuse).headPool ++ partialTo (rxDef .refuse) x.2.1 (rxDef .refuse).headPool
        = x.2.2.1 :: x.2.2.2)
    ∧ decodeFrame (encodeFrame (.data f)) = some (.data f) ∧ f.label = some 9 ∧ f.last = false ∧ f.payload.length = 64 := by
  decide +kernel

theorem test_witness_OneSegmentMessageDelivered :
    let f := dataFrame (some 9) true []
    (∀ x ∈ firstTargets (hearing .gap 3),
      onlineHearing x.1 .gap = true ∧ x.1.turn.quiet = 0 ∧ x.1.mem.wf = true ∧ f.source = x.1.turn.counter
      ∧ f.source ≠ x.1.ownAddr ∧ f.destination = x.1.ownAddr ∧ (x.1.rosterOf f.source).state ≠ .absent
      ∧ (x.1.rxc f.channel).defn = some (rxDef .refuse)
      ∧ ((x.1.rxc f.channel).state = .idle ∨ (x.1.rxc f.channel).busyFrom f.source = true)
      ∧ partialAt x.1 (fun c => c.state == .assembling) f.channel x.2.1 = true
      ∧ x.1.tallyOf f.channel f.source ≠ some f.tally
      ∧ x.1.queue (rxDef .refuse).headPool ++ partialTo (rxDef .refuse) x.2.1 (rxDef .refuse).headPool
        = x.2.2.1 :: x.2.2.2)
    ∧ decodeFrame (encodeFrame (.data f)) = some (.data f) ∧ f.label = some 9 ∧ f.last = true := by
  decide +kernel

theorem test_witness_LastSegmentDeliversAssembly :
    let s := pooled (assemblingState.rxc 1) assemblingState
    let f := dataFrame none true [1]
    let g := dataFrame none false (List.replicate 64 1)
    onlineHearing s .gap = true ∧ s.turn.quiet = 0 ∧ s.mem.wf = true
    ∧ decodeFrame (encodeFrame (.data f)) = some (.data f) ∧ f.source = s.turn.counter ∧ f.source ≠ s.ownAddr
    ∧ f.destination = s.ownAddr ∧ (s.rosterOf f.source).state ≠ .absent
    ∧ (s.rxc f.channel).defn = some (rxDef .refuse) ∧ (s.rxc f.channel).state = .assembling
    ∧ (s.rxc f.channel).source = some f.source
    ∧ (s.rxc f.channel).part = some { head := 30, tail := 31, count := 2, length := 128 }
    ∧ isChain s (30 :: [31]) = true ∧ (30 :: [31] : List DescId).length ≤ 15
    ∧ (30 :: [31] : List DescId).getLast? = some 31 ∧ s.tallyOf f.channel f.source ≠ some f.tally ∧ f.label = none
    ∧ f.last = true ∧ 1 ≤ f.payload.length
    ∧ decodeFrame (encodeFrame (.data g)) = some (.data g) ∧ g.label = none ∧ g.last = false ∧ g.payload.length = 64
    ∧ ({ head := 30, tail := 31, count := 2, length := 128 } : Assembly).count ≠ 15
    ∧ s.queue (rxDef .refuse).bodyPool = 33 :: []
    ∧ (33 : DescId) ∉ (30 :: [31] : List DescId) ∧ (s.desc 33).next = some 34
    ∧ (34 : DescId) ∉ (30 :: [31] : List DescId) := by decide +kernel

theorem test_witness_ClosedAndSeenStoreNothing :
    let s := hearing .gap 3
    let f := dataFrame (some 9) true []
    let u := (pooled idleRx s).setTally 1 3 (some 6)
    onlineHearing s .gap = true ∧ s.turn.quiet = 0 ∧ decodeFrame (encodeFrame (.data f)) = some (.data f)
    ∧ f.source = s.turn.counter ∧ f.source ≠ s.ownAddr ∧ f.destination = s.ownAddr
    ∧ (s.rosterOf f.source).state ≠ .absent ∧ (s.rxc f.channel).defn = none
    ∧ onlineHearing u .gap = true ∧ (u.rxc f.channel).defn ≠ none ∧ (u.rxc f.channel).state ≠ .disabled
    ∧ (u.rxc f.channel).state ≠ .halted ∧ u.tallyOf f.channel f.source = some f.tally := by decide +kernel

/-- The line of FRAME_END; then on station 3's turn, RX1 open and a new tally, by clause: shape violations (one by the busy
source, one of row 3 of R118), a busy channel, a stray, empty head and body pools under both policies, a discarded
segment. -/
theorem test_witness_ReplyDecisionWithoutStoring :
    let at' := fun c => (hearing .gap 3).setRx 1 c
    let drop := fun (c : RxChan) => { c with defn := some (rxDef .drop) }
    let asm := partialIn (hearing .gap 3)
    let full := asm.setRx 1 { asm.rxc 1 with part := some { head := 30, tail := 31, count := 15, length := 960 } }
    let discard := { idleRx with state := .discarding, source := some 3 }
    let one := dataFrame (some 9) true []
    (onlineHearing asm .gap = true ∧ asm.turn.quiet = 0 ∧ decodeFrame (encodeFrame (.data one)) = some (.data one)
      ∧ one.source = asm.turn.counter ∧ one.source ≠ asm.ownAddr ∧ one.destination = asm.ownAddr
      ∧ (asm.rosterOf one.source).state ≠ .absent)
    ∧ (∀ s ∈ [at' idleRx, at' (drop idleRx), asm, asm.setRx 1 (drop (asm.rxc 1)), full, at' discard, at' (drop discard),
        at' { discard with source := some 4 }],
      (s.rxc 1).defn ≠ none ∧ (s.rxc 1).state ≠ .disabled ∧ (s.rxc 1).state ≠ .halted
      ∧ s.tallyOf 1 3 ≠ some one.tally ∧ s.queue 5 = [] ∧ s.queue 6 = [])
    ∧ ((dataFrame none false [1]).payload.length ≠ 64 ∧ (dataFrame none true []).payload.length = 0
      ∧ idleRx.busyFrom 3 = false ∧ (asm.rxc 1).busyFrom 3 = true ∧ discard.busyFrom 3 = true
      ∧ partialAt asm (fun _ => true) 1 [30, 31] = true ∧ partialAt (at' discard) (fun _ => true) 1 [] = true
      ∧ partialAt full (fun _ => true) 1 [30, 31] = true ∧ (full.rxc 1).part.map (·.count) = some 15)
    ∧ ({ discard with source := some 4 }.busy = true ∧ { discard with source := some 4 }.busyFrom 3 = false
      ∧ one.label ≠ none ∧ (dataFrame none true [1]).label = none ∧ (dataFrame none true [1]).payload.length ≠ 0)
    ∧ ((asm.rxc 1).part ≠ none ∧ (asm.rxc 1).state = .assembling ∧ (asm.rxc 1).source = some 3
      ∧ partialAt (asm.setRx 1 (drop (asm.rxc 1))) (fun _ => true) 1 [30, 31] = true
      ∧ partialAt (at' (drop idleRx)) (fun _ => true) 1 [] = true)
    ∧ discard.state = .discarding ∧ discard.part = none := by decide +kernel

/-- ONLINE in the own turn, hearing a frame in the window, the segment of TX0 outstanding; descriptor 10 after 9. -/
def answered (c : TxChan) : State := sendingMsg c outstandingState

theorem test_witness_ReplyMovesMessageOn :
    let c := { sendingTx with laters := 62 }
    let k := { c with state := .tearing, doubt := true }
    (∀ x ∈ [(answered c, c), (withMarker (answered k), k)],
      onlineHearing x.1 .window = true ∧ x.1.turn.counter = x.1.ownAddr ∧ onlyOutstanding x.1 0 = true
      ∧ x.2 = x.1.txc 0 ∧ x.2.defn = some txDef ∧ txDef.station ≠ x.1.ownAddr
      ∧ (x.1.rosterOf txDef.station).state ≠ .absent ∧ nothingFrom x.1 x.1.ownAddr = true
      ∧ x.2.cur = some 9 ∧ (x.1.desc 9).next = some 10 ∧ x.2.laters + 1 < 64 ∧ x.2.tally = 0)
    ∧ decodeFrame (encodeFrame (replyFrame .taken)) = some (replyFrame .taken)
    ∧ decodeFrame (encodeFrame (replyFrame .later)) = some (replyFrame .later)
    ∧ c.state = .active
    ∧ (let s := withMarker (answered k)
       k.state = .tearing ∧ k.msg = some 9 ∧ isChain s (9 :: [10]) = true ∧ s.queue txDef.submit = []
       ∧ (s.desc 9).returnQueue ≠ txDef.submit ∧ s.queue s.cfg.markerPool = 90 :: [] ∧ (s.desc 90).next = none
       ∧ 90 ∉ (9 :: [10] : List DescId)) := by decide +kernel

theorem test_witness_ReplyEndsMessage :
    let c := { sendingTx with cur := some 10 }
    let k := { c with state := .tearing, doubt := true }
    (∀ x ∈ [(answered c, c), (withMarker (answered k), k)],
      onlineHearing x.1 .window = true ∧ x.1.turn.counter = x.1.ownAddr ∧ onlyOutstanding x.1 0 = true
      ∧ x.2 = x.1.txc 0 ∧ x.2.defn = some txDef ∧ x.2.msg = some 9 ∧ x.2.cur = some 10
      ∧ isChain x.1 (9 :: [10]) = true ∧ txDef.station ≠ x.1.ownAddr ∧ (x.1.rosterOf txDef.station).state ≠ .absent
      ∧ nothingFrom x.1 x.1.ownAddr = true ∧ (x.1.desc 10).next = none ∧ x.2.tally = 0)
    ∧ (∀ k ∈ [ReplyCode.seen, .closed, .lost], decodeFrame (encodeFrame (replyFrame k)) = some (replyFrame k))
    ∧ c.state = .active
    ∧ (let s := withMarker (answered k)
       k.state = .tearing ∧ s.queue txDef.submit = [] ∧ (s.desc 9).returnQueue ≠ txDef.submit
       ∧ s.queue s.cfg.markerPool = 90 :: [] ∧ (s.desc 90).next = none ∧ 90 ∉ (9 :: [10] : List DescId)) := by
  decide +kernel

theorem test_witness_IdleEndsFrameAsInvalid :
    (hearing .gap 3).line = .receiving { began := .gap, counted := true, remainder := false }
    ∧ (hearing .window 3).request = none ∧ (hearing .window 3).station = .online
    ∧ (hearing .window 3).turn.counter ≠ (hearing .window 3).ownAddr
    ∧ (hearing .window 3).turn.counter + 1 ≠ (hearing .window 3).ownAddr ∧ patienceLasts (hearing .window 3) 3 = true
    ∧ (let s := answered { sendingTx with attempts := 7 }
       s.station = .online ∧ s.line = .receiving { began := .window, counted := true, remainder := false }
       ∧ s.request = none ∧ s.turn.counter = s.ownAddr ∧ onlyOutstanding s 0 = true ∧ (s.txc 0).state = .active
       ∧ (s.txc 0).attempts < 8 ∧ nothingFrom s s.ownAddr = true)
    ∧ (let h : Heard := { began := .other, counted := false, remainder := true }
       { inState .listening with line := .skipping h }.line = .skipping h) := by decide +kernel

theorem test_witness_OwnFramesSentAndTreated :
    { inState .online with request := some (.pass 5) }.request = some (.pass 5)
    ∧ (sending (.pass 5)).station = .online ∧ (sending (.pass 5)).line = .sending (.pass 5)
    ∧ (sending (.pass 5)).turn.counter = (sending (.pass 5)).ownAddr
    ∧ nothingOutstanding (sending (.pass 5)) = true ∧ nothingFrom (sending (.pass 5)) 5 = true
    ∧ (let s := inTurn (sending (replyFrame .taken)) 3 .stopped
       s.line = .sending (replyFrame .taken) ∧ s.turn.counter ≠ s.ownAddr ∧ s.turn.counter + 1 ≠ s.ownAddr
       ∧ patienceLasts s s.turn.counter = true) := by decide +kernel

/-- Six and seven collisions before this one. -/
theorem test_witness_CollisionResyncsOrFaults :
    let s := fun k =>
      { partialIn (sendingMsg doubtfulTx (sending (.pass 5))) with turn := { (sending (.pass 5)).turn with collided := k } }
    (∀ k ∈ [6, 7], (s k).station = .online ∧ (s k).line = .sending (.pass 5))
    ∧ (s 6).turn.collided + 1 < 8 ∧ ending (s 6) TxChan.doubt (fun _ => false) msgs0 (fun _ => []) = true
    ∧ (s 7).turn.collided + 1 = 8 ∧ ending (s 7) TxChan.doubt RxChan.busy msgs0 parts1 = true := by decide +kernel

theorem test_witness_CollisionFailsDoubtfulMessage :
    let f : DataFrame := { dataFrame (some 0) false [] with source := 5, destination := 3 }
    let at' := fun (x : StationState) (k : Nat) (c : TxChan) =>
      { withMarker (partialIn (answered c)) with
        station := x, line := .sending (.data f), turn := { (answered c).turn with collided := k } }
    let torn := { sendingTx with state := .tearing }
    let u := fun (s : State) => (s.applyOutcome 0 none).finishTearing 0
    (∀ x ∈ [(StationState.online, 6), (.online, 7), (.leaving, 6), (.leaving, 7)],
      ∀ c ∈ [sendingTx, { sendingTx with attempts := 8 }, torn, { torn with attempts := 8 }], let s := at' x.1 x.2 c
      (s.station = .online ∨ s.station = .leaving) ∧ s.line = .sending (.data f) ∧ s.turn.collided + 1 ≤ 8
      ∧ onlyOutstanding s 0 = true ∧ (s.txc 0).defn = some txDef ∧ (s.txc 0).msg = some 9 ∧ isChain s (9 :: [10]) = true
      ∧ (∀ m, m ≠ 0 → (s.txc m).doubt = false) ∧ s.queue txDef.submit = [] ∧ (s.desc 9).returnQueue ≠ txDef.submit
      ∧ (s.queue s.cfg.markerPool).head? = some 90 ∧ (s.desc 90).next = none ∧ 90 ∉ (9 :: [10] : List DescId))
    ∧ (at' .online 7 torn).turn.collided + 1 = 8 ∧ ((at' .online 7 sendingTx).txc 0).attempts < 8
    ∧ ending ((at' .online 6 sendingTx).setTx 0 { sendingTx with doubt := true }) TxChan.doubt (fun _ => false) msgs0
        (fun _ => []) = true
    ∧ ending ((at' .leaving 6 sendingTx).setTx 0 { sendingTx with doubt := true }) TxChan.doubt RxChan.busy msgs0 parts1
        = true
    ∧ ending (u (at' .online 6 torn)) TxChan.doubt (fun _ => false) (fun _ => []) (fun _ => []) = true
    ∧ ending (u (at' .online 7 torn)) TxChan.doubt RxChan.busy (fun _ => []) parts1 = true := by decide +kernel

theorem test_witness_WindowExpiryEndsTurn :
    let s := inTurn (partialIn (inState .online)) 3 .responseWindow
    let u := (inTurn (inState .online) 5 .responseWindow).setTx 0 { sendingTx with attempts := 7 }
    let v := withMarker (sendingMsg { sendingTx with attempts := 7, state := .tearing } u)
    onlineSilent s .responseWindow = true ∧ s.turn.counter ≠ s.ownAddr ∧ s.turn.counter + 1 ≠ s.ownAddr
    ∧ patienceOut 3 (s.rxc 1) = true
    ∧ ending s (fun _ => false) (patienceOut s.turn.counter) (fun _ => []) parts1 = true
    ∧ (∀ x ∈ [u, v], onlineSilent x .responseWindow = true ∧ x.turn.counter = x.ownAddr ∧ onlyOutstanding x 0 = true
      ∧ (x.txc 0).attempts < 8 ∧ nothingFrom x x.ownAddr = true)
    ∧ (u.txc 0).state = .active
    ∧ (v.txc 0).state = .tearing ∧ (v.txc 0).defn = some txDef ∧ (v.txc 0).msg = some 9 ∧ isChain v (9 :: [10]) = true
    ∧ v.queue txDef.submit = [] ∧ (v.desc 9).returnQueue ≠ txDef.submit ∧ v.queue v.cfg.markerPool = 90 :: []
    ∧ (v.desc 90).next = none ∧ 90 ∉ (9 :: [10] : List DescId) := by decide +kernel

theorem test_witness_GapExpiryEndsTurnSilent :
    let s := inTurn (partialIn (sendingMsg doubtfulTx (inState .online))) 3 .turnGap
    let d := s.setRoster 3 { state := .present, misses := 1 }
    let k := d.setRx 1 { d.rxc 1 with progress := true }
    let u := inTurn (inState .online) 5 .turnGap
    let u := { u with turn := { u.turn with ownTurn := true, quiet := 1 } }
    (∀ x ∈ [s, d, k], onlineSilent x .turnGap = true ∧ x.turn.counter ≠ x.ownAddr ∧ x.turn.counter + 1 ≠ x.ownAddr)
    ∧ (s.rosterOf 3).misses = 0
    ∧ ((s.setRoster 3 { state := .absent, misses := 2 }).rosterOf 3).state = .absent
    ∧ ending s (fun _ => false) (patienceOut 3) (fun _ => []) parts1 = true
    ∧ (d.rosterOf 3).state ≠ .absent ∧ (d.rosterOf 3).misses = 1
    ∧ missedTwiceEnds d 3 parts1 msgs0 (fun _ => []) = true ∧ missedTwiceEnds k 3 (fun _ => []) msgs0 parts1 = true
    ∧ onlineSilent u .turnGap = true ∧ u.turn.counter = u.ownAddr ∧ u.turn.ownTurn = true ∧ 1 ≤ u.turn.quiet
    ∧ nothingOutstanding u = true ∧ nothingFrom u u.ownAddr = true := by decide +kernel

/-- ONLINE at the end of station 4's turn, which takes the patience of RX1. -/
def beforeFive (l : Line) (t : Timer) : State :=
  let s := partialIn (inTurn (inState .online) 4 t)
  { s.setRx 1 { s.rxc 1 with source := some 4 } with line := l }

/-- Hears a frame that began in this place. -/
def hears (b : Began) : Line := .receiving { began := b, counted := true, remainder := false }

/-- OwnTurnChoosesFrame, every way to the own turn: both expiries, with no miss, with one and ABSENT; idle; an invalid frame and a REPLY; the own
REPLY; a PASS of station 4 in its turn, in station 3's, in a window and while LISTENING. -/
theorem test_witness_OwnTurnReached :
    let w := beforeFive .quiet .responseWindow
    let g := beforeFive .quiet .turnGap
    let a := g.setRoster 4 { state := .absent, misses := 2 }
    let d := g.setRoster 4 { state := .present, misses := 1 }
    let h := beforeFive (hears .window) .stopped
    let r := beforeFive (.sending (replyFrame .taken)) .stopped
    let p := beforeFive (hears .gap) .stopped
    let z := { beforeFive (hears .window) .stopped with turn := { counter := 5, flavour := .joining, quiet := 1,
                                                                  collided := 0, timer := .stopped, ownTurn := true } }
    (∀ s ∈ [w, g, a, d, h, r], s.station = .online ∧ s.request = none ∧ s.turn.counter + 1 = s.ownAddr
      ∧ patienceOut 4 (s.rxc 1) = true
      ∧ ending s (fun _ => false) (patienceOut s.turn.counter) (fun _ => []) parts1 = true)
    ∧ w.line = .quiet ∧ w.turn.timer = .responseWindow ∧ g.turn.timer = .turnGap ∧ (g.rosterOf 4).misses = 0
    ∧ (a.rosterOf 4).state = .absent ∧ (d.rosterOf 4).state ≠ .absent ∧ (d.rosterOf 4).misses = 1
    ∧ missedTwiceEnds d 4 parts1 (fun _ => []) (fun _ => []) = true
    ∧ h.line = hears .window ∧ frameComplete [0x5A, 3, 0, 0] = true ∧ decodeFrame [0x5A, 3, 0, 0] = none
    ∧ decodeFrame (encodeFrame (replyFrame .seen)) = some (replyFrame .seen) ∧ r.line = .sending (replyFrame .taken)
    ∧ decodeFrame (encodeFrame (.pass 4)) = some (.pass 4) ∧ (4 : Station) + 1 = p.ownAddr
    ∧ (∀ s ∈ [p, { p with turn := { p.turn with counter := 3 } }], onlineHearing s .gap = true
      ∧ ending s (fun _ => false) (patienceOut 4) (fun _ => []) parts1 = true)
    ∧ (∀ s ∈ [h, z], onlineHearing s .window = true ∧ nothingOutstanding s = true)
    ∧ ending h (fun _ => false) (patienceOut h.turn.counter) (fun _ => []) parts1 = true
    ∧ ending z (fun _ => false) (patienceOut z.turn.counter) (fun _ => []) (fun _ => []) = true
    ∧ ending z (fun _ => false) (patienceOut 4) (fun _ => []) parts1 = true
    ∧ { p with station := .listening, line := hears .other }.line = hears .other := by decide +kernel

/-- ONLINE with the schedule: EMPTY, TX1 toward station 4, TX0. -/
def ownTurnState (c : TxChan) : State :=
  let s := (inState .online).setTx 0 c
  let s := s.setTx 1
    { TxChan.reset with defn := some { txDef with station := 4, submit := 1 }, state := .idle, absence := 2 }
  let s := (s.setDesc 9 { Desc.reset with fill := 64, next := some 10, returnQueue := 8 }).setDesc 10
    { Desc.reset with fill := 1 }
  { (s.setQueue 1 [33]).setRoster 4 { state := .absent, misses := 2 } with cfg := { LineConfig.reset with
      length := 3, schedule := put (put LineConfig.reset.schedule 1 (some 1)) 2 (some 0) } }

/-- The own turn start: TX1 counts absence and is passed over; TX0 has nothing to send, a message toward an ABSENT station at its fourth count,
a segment to send, a message to take, or a malformed one. -/
theorem test_witness_OwnTurnChoosesFrame :
    let idle := { TxChan.reset with defn := some txDef, state := .idle }
    let gone := fun (c : TxChan) =>
      ((ownTurnState { c with absence := 3 }).setQueue 0 [9]).setRoster 3 { state := .absent, misses := 2 }
    let s := ownTurnState { sendingTx with outstanding := false }
    let u := (ownTurnState idle).setQueue 0 [9]
    let bad := u.setDesc 9 { Desc.reset with fill := 63, next := some 10, returnQueue := 8 }
    (∀ v ∈ [ownTurnState idle, s, u, bad, gone idle, gone { sendingTx with outstanding := false }],
      countsAbsent v 1 = true ∧ (v.txc 1).absence + 1 < 4 ∧ (∀ m, m ≠ 0 → passedOver v m = true)
      ∧ (∀ m, m ≠ 0 → m ≠ 1 → countsAbsent v m = false) ∧ isChain v (9 :: [10]) = true
      ∧ (∀ m, m ≠ 0 →
        ((v.txc m).defn.all fun b => b.submit != (v.desc 9).returnQueue && b.submit != txDef.submit) = true)
      ∧ (v.txc 0).defn = some txDef ∧ v.cursor < v.cfg.length ∧ v.cfg.length = 3
      ∧ (0 : Fin 32).val = (v.cursor + 0) % v.cfg.length ∧ look v.cfg.schedule 0 = none
      ∧ (1 : Fin 32).val = (v.cursor + 1) % v.cfg.length ∧ look v.cfg.schedule 1 = some 1
      ∧ (2 : Fin 32).val = (v.cursor + 2) % v.cfg.length ∧ look v.cfg.schedule 2 = some 0)
    ∧ passedOver (ownTurnState idle) 0 = true
    ∧ (∀ v ∈ [gone idle, gone { sendingTx with outstanding := false }], passedOver v 0 = true ∧ countsAbsent v 0 = true
      ∧ (v.txc 0).absence = 3)
    ∧ ((gone sendingTx).txc 0).msg = some 9 ∧ ((gone idle).txc 0).msg = none ∧ (gone idle).queue txDef.submit = 9 :: []
    ∧ (∀ v ∈ [s, u, bad], (v.rosterOf txDef.station).state ≠ .absent ∧ countsAbsent v 0 = false)
    ∧ (s.txc 0).state = .active ∧ (s.txc 0).msg = some 9 ∧ (s.txc 0).cur = some 9
    ∧ (u.txc 0).state = .idle ∧ u.queue txDef.submit = 9 :: [] ∧ (u.desc 9).fill = 64 ∧ (u.desc 10).fill = 1
    ∧ (bad.txc 0).state = .idle ∧ bad.queue txDef.submit = [9] ∧ (9 : DescId) ∈ (9 :: [10] : List DescId).dropLast
    ∧ (bad.desc 9).fill ≠ 64 ∧ (bad.desc 9).returnQueue ≠ txDef.submit := by decide +kernel

theorem test_witness_ListenThenClaim :
    ∀ t ∈ [Timer.listenWait, .claimWait], let s := inTurn (inState .listening) 0 t
      s.station = .listening ∧ s.line = .quiet ∧ s.request = none ∧ s.turn.timer = t := by decide +kernel

theorem test_witness_AbsenceLimitReturnsMessage :
    let d := fun (c : TxChan) => (answered { c with absence := 3 }).setRoster 3 { state := .absent, misses := 2 }
    let s := (d { TxChan.reset with defn := some txDef, state := .idle }).setQueue 0 [9]
    let u := d { sendingTx with outstanding := false }
    (∀ v ∈ [s, u], v.station = .online ∧ v.turn.quiet = 0 ∧ (v.txc 0).defn = some txDef ∧ (v.txc 0).absence = 3
      ∧ (v.rosterOf txDef.station).state = .absent ∧ isChain v (9 :: [10]) = true)
    ∧ (s.txc 0).state = .idle ∧ (s.txc 0).msg = none ∧ s.queue txDef.submit = 9 :: []
    ∧ (u.txc 0).state = .active ∧ (u.txc 0).msg = some 9 := by decide +kernel

theorem test_witness_SendingLimitsFailMessage :
    let s := answered { sendingTx with attempts := 8, laters := 63 }
    (s.txc 0).defn = some txDef ∧ (s.txc 0).state = .active ∧ (s.txc 0).outstanding = true ∧ (s.txc 0).msg = some 9
    ∧ isChain s (9 :: [10]) = true ∧ (s.txc 0).attempts = 8 ∧ (s.txc 0).laters = 63 := by decide +kernel

theorem test_witness_SecondMissMakesAbsent :
    let s := (inTurn (partialIn doubtful) 3 .turnGap).setRoster 3 { state := .present, misses := 1 }
    s.station = .online ∧ s.turn.counter = 3 ∧ 3 ≠ s.ownAddr ∧ (s.rosterOf 3).state ≠ .absent
    ∧ (s.rosterOf 3).misses = 1 ∧ ending s (failsFor 3) (fun c => c.busyFrom 3) msgs0 parts1 = true := by decide +kernel

theorem test_witness_RefusedCommandsChangeNothing :
    (∀ c ∈ [Instr.fix, .readBuffer 0 64 0, .unknownCommand 0], isHostCommand c = true ∧ wellFormed c = true)
    ∧ (inState .online).portSkips = false ∧ State.reset.portSkips = false ∧ State.reset.station = .starting
    ∧ exec .fix (inState .online) = .next { inState .online with answer := [0xA2#8] } :=
  ⟨by decide +kernel, rfl, rfl, rfl, rfl⟩

theorem test_witness_PacketMemoryWriters : writesMemory .idleFrameEnd = false
    ∧ exec .leave (inState .offline) = .next { inState .offline with answer := [0xA2#8] } :=
  ⟨by decide +kernel, rfl⟩

/-- A segment of TX0 outstanding, RX1 assembling, a marker waiting. It meets the premises of every invariant's statement and
it steps. -/
def busyState : State :=
  { withMarker (partialIn (answered sendingTx)) with pending := [.entryToSkipping .missingStopBit] }

theorem test_witness_invariants : MemoryCanonical busyState ∧ LineHeld busyState ∧ RosterSound busyState
    ∧ ScheduleSound busyState ∧ CountersInRange busyState ∧ FillsInRange busyState ∧ DeliveredSizes busyState := by
  refine ⟨?_, ?_, ?_, ?_, ?_, ?_, ?_⟩ <;>
    simp only [MemoryCanonical, LineHeld, RosterSound, ScheduleSound, CountersInRange, FillsInRange, DeliveredSizes] <;>
    decide +kernel

theorem test_witness_invariants_step : ∃ t, step busyState = .next t := ⟨_, rfl⟩

theorem test_witness_ReceiveSound : ReceiveSound busyState := by
  have part : ∀ n, ((busyState.rxc n).part.all fun p =>
      decide (1 ≤ p.count ∧ p.count ≤ Config.partialLimit ∧ p.length ≤ Config.bufferSize * p.count)) = true := by
    decide +kernel
  have defn : ∀ n, ((busyState.rxc n).defn.all fun df => decide (1 ≤ df.patience ∧ df.patience ≤ 255
      ∧ ((busyState.rxc n).busy = true → (busyState.rxc n).idle < df.patience))) = true := by decide +kernel
  refine ⟨fun n => ⟨?_, ?_, fun p hp => by simpa [hp] using part n, ?_, fun df hd => ?_, ?_⟩, ?_⟩
  · revert n; decide +kernel
  · revert n; decide +kernel
  · revert n; decide +kernel
  · have h := defn n
    rw [hd] at h
    exact of_decide_eq_true h
  · revert n; decide +kernel
  · decide +kernel

theorem test_witness_TransmitSound : TransmitSound busyState := by
  have roster : ∀ n, (busyState.txc n).outstanding = true →
      ((busyState.txc n).defn.all fun df => (busyState.rosterOf df.station).state != .absent) = true := by decide +kernel
  refine ⟨?_, by decide +kernel, by decide +kernel, fun n hn => ⟨.inl rfl, rfl, ?_, fun df hd => ?_⟩⟩
  · simp only [TxContextSound]; decide +kernel
  · exact .inr ⟨rfl, .inr (.inr ⟨_, rfl, .inl rfl⟩)⟩
  · simpa [hd] using roster n hn

theorem test_witness_OwnershipSound : OwnershipSound busyState := by
  have cur : ∀ n, ((busyState.txc n).msg.all fun h =>
      (busyState.txc n).cur.all fun d => decide (d ∈ busyState.chain h)) = true := by decide +kernel
  have part : ∀ n, ((busyState.rxc n).part.all fun p => decide ((busyState.chain p.head).length = p.count
      ∧ (busyState.chain p.head).getLast? = some p.tail)) = true := by decide +kernel
  have held : ∀ x ∈ heldChains busyState, isChain busyState x.2 = true
      ∧ (x.2.head?.all fun h => decide ((busyState.desc h).owner = x.1)) = true
      ∧ ∀ d ∈ x.2.tail, (busyState.desc d).owner = memberOwner x.1 := by decide +kernel
  refine ⟨fun x hx => ⟨(held x hx).1, fun h hh => ?_, (held x hx).2.2⟩, by decide +kernel, by decide +kernel,
    fun n h d hh hd => ?_, fun n p hp => ?_⟩
  · simpa [hh] using (held x hx).2.1
  · simpa [hh, hd] using cur n
  · simpa [hp] using part n

theorem test_witness_TransactionBytesRoundTrip :
    wellFormed (.writeBuffer 0 0 1 [7]) = true
    ∧ encodeTransaction (.writeBuffer 0 0 1 [7]) = some [0x33, 0, 0, 1, 7]
    ∧ commandTaken [0x21, 31] = true := by decide +kernel

theorem test_witness_FrameBytesRoundTrip : (dataFrame (some 0) false (List.replicate 64 0xFF)).payload.length ≤ 64 := by
  decide +kernel

theorem test_witness_CheckSequenceSeesChangedByte :
    crcMatches (encodeFrame (.pass 3)) = true ∧ 3 < (encodeFrame (.pass 3)).length
    ∧ (encodeFrame (.pass 3)).getD 3 0 ≠ (encodeFrame (.pass 3)).getD 3 0 + 1 := by decide +kernel

/-- LEAVING in the own turn with the segment of TX0 outstanding: RX1 assembling as the window expires; or hearing the frame
that ends the turn, the last segment sent. -/
theorem test_witness_LeavingEndsWithOwnTurn :
    let leaving := fun (c : TxChan) (s : State) => { sendingMsg c s with station := .leaving }
    let s := partialIn (leaving { sendingTx with attempts := 7 } (inTurn (inState .online) 5 .responseWindow))
    let u := leaving { sendingTx with cur := some 10 } (hearing .window 5)
    let f : DataFrame := { dataFrame none true [1] with destination := 5 }
    (∀ x ∈ [s, u], x.station = .leaving ∧ x.request = none ∧ x.turn.counter = x.ownAddr ∧ onlyOutstanding x 0 = true
      ∧ (x.txc 0).state = .active ∧ nothingFrom x x.ownAddr = true)
    ∧ s.line = .quiet ∧ s.turn.timer = .responseWindow ∧ (s.txc 0).attempts < 8
    ∧ ending (s.setTx 0 { s.txc 0 with doubt := true }) TxChan.doubt RxChan.busy msgs0 parts1 = true
    ∧ (s.txc 0).defn = some txDef ∧ (s.txc 0).msg = some 9
    ∧ u.line = .receiving { began := .window, counted := true, remainder := false } ∧ noneBusy u = true
    ∧ (∀ m, m ≠ 0 → (u.txc m).doubt = false) ∧ (u.txc 0).defn = some txDef ∧ (u.txc 0).msg = some 9
    ∧ isChain u (9 :: [10]) = true ∧ (u.txc 0).cur = some 10 ∧ (u.desc 10).next = none ∧ (u.txc 0).tally = 0
    ∧ (∀ k ∈ [ReplyCode.taken, .seen], decodeFrame (encodeFrame (replyFrame k)) = some (replyFrame k))
    ∧ decodeFrame (encodeFrame (.pass 15)) = some (.pass 15)
    ∧ decodeFrame (encodeFrame (.data f)) = some (.data f) ∧ f.source = 3 := by decide +kernel

end Sys2Proof.Tests
end

section
/-! PROOFS. The descriptor and buffer commands of chapter 1: WRITE_DESC, READ_BUFFER and WRITE_BUFFER (R1, R19 to R21). -/

namespace Sys2Proof.Machine

open Sys2Proof.Safety

/-! ## Argument bytes (R193) -/

theorem inRange_eq_some {n : Nat} {b : Byte} {i : Fin n} (h : b.toNat = i.val) : inRange n b = some i := by
  have hlt : b.toNat < n := h ▸ i.isLt
  simp only [inRange, hlt, dif_pos, Option.some.injEq]
  exact Fin.ext h

theorem inRange_eq_none {n : Nat} {b : Byte} (h : n ≤ b.toNat) : inRange n b = none :=
  dif_neg (Nat.not_lt.mpr h)

theorem descOf_eq {b : Byte} {i : DescId} (h : b.toNat = i.val) : descOf b = i := Fin.ext h

/-- Marker 00h names the descriptor of the index byte, 01h names none (R193). -/
theorem nextOf_eq_some {index marker : Byte} {nx : Option DescId}
    (h : marker = 0x00#8 ∧ nx.map (·.val) = some index.toNat ∨ marker = 0x01#8 ∧ nx = none) :
    nextOf index marker = some nx := by
  obtain ⟨rfl, hi⟩ | ⟨rfl, rfl⟩ := h
  · obtain ⟨i, rfl, hv⟩ := Option.map_eq_some_iff.mp hi
    rw [nextOf, if_pos rfl, descOf_eq hv.symm]
  · rfl

theorem nextOf_eq_none {index marker : Byte} (h0 : marker ≠ 0x00#8) (h1 : marker ≠ 0x01#8) :
    nextOf index marker = none := by
  rw [nextOf, if_neg h0, if_neg h1]

theorem announced_of_le {limit : Nat} {count : Byte} (h : count.toNat ≤ limit) : announced limit count = count.toNat :=
  if_pos h

/-- A counting byte of 0 announces nothing, as one above the limit does (R173). -/
theorem announced_eq (limit : Nat) (count : Byte) :
    announced limit count = if 1 ≤ count.toNat ∧ count.toNat ≤ limit then count.toNat else 0 := by
  unfold announced
  split_ifs <;> omega

/-- The three conditions on offset and count come down to a count that is not 0 and a sum within the buffer (R20, R21). -/
theorem bufferRange_iff {offset count : Byte} :
    bufferRange offset count = true ↔ 1 ≤ count.toNat ∧ offset.toNat + count.toNat ≤ 64 := by
  simp only [bufferRange, Bool.and_eq_true, decide_eq_true_eq]
  unfold Config.bufferSize
  omega

theorem bufferRange_eq_false {offset count : Byte}
    (h : 63 < offset.toNat ∨ count.toNat = 0 ∨ 64 < count.toNat ∨ 64 < offset.toNat + count.toNat) :
    bufferRange offset count = false := by
  refine Bool.eq_false_iff.mpr fun hrange => ?_
  have hin := bufferRange_iff.mp hrange
  omega

theorem bufferRange_ne_false {offset count : Byte} (hc : 1 ≤ count.toNat) (hsum : offset.toNat + count.toNat ≤ 64) :
    bufferRange offset count ≠ false :=
  Bool.ne_false_iff.mpr (bufferRange_iff.mpr ⟨hc, hsum⟩)

/-! ## The host port (R174, R178) -/

/-- A port that takes commands runs the command's own effect. -/
theorem State.atPort_of_portTakes {s : State} (act : State) (h : portTakes s = true) : s.atPort act = act := by
  obtain ⟨hskip, hstation⟩ : s.portSkips = false ∧ s.station ≠ .starting := by simpa [portTakes] using h
  exact s.atPort_taken act hskip hstation

@[simp] theorem State.sdoByte_answering_zero (s : State) (st : Status) (results : List Byte) :
    (s.answering st results).sdoByte 0 = statusByte st := rfl

@[simp] theorem State.sdoByte_answering_succ (s : State) (st : Status) (results : List Byte) (k : Nat) :
    (s.answering st results).sdoByte (1 + k) = results.getD k 0 := by
  rw [Nat.add_comm]
  rfl

/-! ## WRITE_DESC (R19) -/

theorem exec_writeDesc_badArgument {d fill nextIndex nextMarker returnQueue label : Byte} {s : State}
    (hs : portTakes s = true)
    (h : inRange 65 fill = none ∨ nextOf nextIndex nextMarker = none ∨ inRange 32 returnQueue = none) :
    exec (.writeDesc d fill nextIndex nextMarker returnQueue label) s = .next (s.refuse .badArgument) := by
  simp only [exec, execWriteDesc, State.atPort_of_portTakes _ hs]
  rcases h with h | h | h
  · rw [h]
  · rw [h]; cases inRange 65 fill <;> rfl
  · rw [h]; cases inRange 65 fill <;> cases nextOf nextIndex nextMarker <;> rfl

/-- WRITE_DESC with its arguments in range is decided by ownership alone. -/
theorem exec_writeDesc_inRange {d fill nextIndex nextMarker returnQueue label : Byte} {s : State} {f : Fin 65}
    {nx : Option DescId} {rq : QueueId} (hs : portTakes s = true) (hf : inRange 65 fill = some f)
    (hn : nextOf nextIndex nextMarker = some nx) (hq : inRange 32 returnQueue = some rq) :
    exec (.writeDesc d fill nextIndex nextMarker returnQueue label) s = .next
      (if (s.desc (descOf d)).owner ≠ .host then s.refuse .notHeld
       else (s.setDesc (descOf d) { s.desc (descOf d) with
          fill := f.val, next := nx, returnQueue := rq, label := label }).answering .done []) := by
  simp only [exec, execWriteDesc, State.atPort_of_portTakes _ hs, hf, hn, hq]

/-- Settles O12: the argument checks come down to the three readings of R193, then ownership decides. -/
theorem writeDescWritesFourFields : Obligations.WriteDescWritesFourFields := by
  intro d fill nextIndex nextMarker returnQueue label i s hs hd
  refine ⟨fun hbad => ?_, fun nx rq hfill hrq hnext => ?_⟩
  · apply exec_writeDesc_badArgument hs
    rcases hbad with hfill | ⟨h0, h1⟩ | hrq
    · exact .inl (inRange_eq_none hfill)
    · exact .inr (.inl (nextOf_eq_none h0 h1))
    · exact .inr (.inr (inRange_eq_none hrq))
  · have hf : inRange 65 fill = some ⟨fill.toNat, Nat.lt_succ_of_le hfill⟩ := inRange_eq_some rfl
    rw [exec_writeDesc_inRange hs hf (nextOf_eq_some hnext) (inRange_eq_some hrq), descOf_eq hd]
    refine ⟨fun howner => by rw [if_pos howner]; rfl, fun howner => ?_⟩
    rw [if_neg (not_not.mpr howner)]
    refine ⟨_, rfl, rfl, fun e => ?_⟩
    rw [State.desc_answering_other, State.desc_setDesc]
    simp only [eq_comm]

/-! ## READ_BUFFER (R20) -/

theorem readBytes_getD (m : Memory) (a count k : Nat) :
    (m.readBytes a count).getD k 0 = if k < count then m.read (a + k) else 0 := by
  by_cases hk : k < count <;> simp [Memory.readBytes, hk]

theorem State.buffer_getD (s : State) (d : DescId) (offset count k : Nat) :
    (s.buffer d offset count).getD k 0 = if k < count then s.mem.read (64 * d.val + offset + k) else 0 :=
  readBytes_getD _ _ _ _

theorem exec_readBuffer {d offset count : Byte} {i : DescId} {s : State} (hs : portTakes s = true)
    (hd : d.toNat = i.val) :
    exec (.readBuffer d offset count) s = .next
      (if bufferRange offset count = false then s.refuse .badArgument
       else if (s.desc i).owner ≠ .host then s.refuse .notHeld
       else s.answering .done (s.buffer i offset.toNat count.toNat)) := by
  simp only [exec, execReadBuffer, State.atPort_of_portTakes _ hs, descOf_eq hd]

/-! ## WRITE_BUFFER (R21) -/

theorem argsNeeded_writeBuffer (d offset count : Byte) :
    argsNeeded 0x33#8 [d, offset, count] = some (3 + announced 64 count) := rfl

theorem decodeTransaction_writeBuffer (d offset count : Byte) (data : List Byte) :
    decodeTransaction (0x33#8 :: d :: offset :: count :: data) =
      if announced 64 count ≤ data.length then .writeBuffer d offset count (data.take (announced 64 count))
      else .transactionAbort (0x33#8 :: d :: offset :: count :: data) := by
  have hargs : decodeArgs 0x33#8 (d :: offset :: count :: data) =
      if announced 64 count ≤ data.length then some (.writeBuffer d offset count (data.take (announced 64 count)))
      else none := rfl
  have hcode : isCommandCode 0x33#8 = true := rfl
  simp only [decodeTransaction, hcode, if_true, hargs]
  split_ifs <;> rfl

/-- WRITE_BUFFER with the data bytes its count announces: arguments, then ownership, then the write. -/
theorem exec_writeBuffer {d offset count : Byte} {data : List Byte} {i : DescId} {s : State} (hs : portTakes s = true)
    (hd : d.toNat = i.val) (hlen : data.length = announced 64 count) :
    exec (.writeBuffer d offset count data) s = .next
      (if bufferRange offset count = false then s.refuse .badArgument
       else if (s.desc i).owner ≠ .host then s.refuse .notHeld
       else (s.writeBuffer i offset.toNat data).answering .done []) := by
  simp only [exec, execWriteBuffer, ← hlen, lt_irrefl, if_false, List.take_length, State.atPort_of_portTakes _ hs,
    descOf_eq hd]

/-- Settles O13: for both commands the range of offset and count is decided first, ownership second; the bytes read and
written are those of `State.buffer_getD` and `writeBuffer_read`. -/
theorem bufferReadAndWrite : Obligations.BufferReadAndWrite := by
  refine ⟨fun d offset count i s hs hd => ?read, fun d offset count data i s hs hd hmem => ⟨?needed, ?cut, ?write⟩⟩
  case read =>
    rw [exec_readBuffer hs hd]
    refine ⟨fun hbad => by rw [if_pos (bufferRange_eq_false hbad)]; rfl, fun hc hsum => ?_⟩
    rw [if_neg (bufferRange_ne_false hc hsum)]
    refine ⟨fun howner => by rw [if_pos howner]; rfl, fun howner => ?_⟩
    rw [if_neg (not_not.mpr howner)]
    refine ⟨_, rfl, rfl, rfl, fun k => ?_⟩
    rw [State.sdoByte_answering_succ, State.buffer_getD]
  case needed => rw [argsNeeded_writeBuffer, announced_eq]
  case cut =>
    intro hshort hle
    rw [decodeTransaction_writeBuffer, announced_of_le hle, if_neg (Nat.not_le.mpr hshort)]
  case write =>
    intro hlen
    rw [exec_writeBuffer hs hd hlen]
    refine ⟨fun hbad => by rw [if_pos (bufferRange_eq_false hbad)]; rfl, fun hc hsum => ?_⟩
    rw [if_neg (bufferRange_ne_false hc hsum)]
    refine ⟨fun howner => by rw [if_pos howner]; rfl, fun howner => ?_⟩
    rw [if_neg (not_not.mpr howner)]
    refine ⟨_, rfl, rfl, fun a => ?_⟩
    rw [if_pos (by omega)] at hlen
    rw [State.answering_mem, writeBuffer_read s i _ data hmem (hlen ▸ hsum), hlen]
    rfl

end Sys2Proof.Machine
end

section
/-! PROOFS. The queue commands of chapter 2 and READ_DESC: PUSH, POP, QUEUE_STATUS and the descriptor record (R18, R27 to
R30, R195). -/

namespace Sys2Proof.Machine

open Sys2Proof.Safety

-- One declaration after another: elaborated side by side, these proofs wait for the same equations of `exec`, and the
-- threads that wait run the compile into its memory limit.
set_option Elab.async false

/-! ## The walk of PUSH, one place at a time (R27) -/

theorem walkFrom_repeat {descs : Table 256 Desc} {seen : List DescId} {d : DescId} (fuel : Nat) (hd : d ∈ seen) :
    walkFrom descs (fuel + 1) seen d = .badChain := by
  simp only [walkFrom, if_pos hd]

/-- A new descriptor in the 17th place is a bad chain, whoever owns it. -/
theorem walkFrom_full {descs : Table 256 Desc} {seen : List DescId} {d : DescId} (fuel : Nat) (hd : d ∉ seen)
    (hfull : Config.chainLimit ≤ seen.length) : walkFrom descs (fuel + 1) seen d = .badChain := by
  simp only [walkFrom, if_neg hd, if_pos hfull]

theorem walkFrom_notHeld {descs : Table 256 Desc} {seen : List DescId} {d : DescId} (fuel : Nat) (hd : d ∉ seen)
    (hroom : seen.length < Config.chainLimit) (howner : (look descs d).owner ≠ .host) :
    walkFrom descs (fuel + 1) seen d = .notHeld := by
  simp only [walkFrom, if_neg hd, if_neg (Nat.not_le.mpr hroom), if_pos howner]

theorem walkFrom_last {descs : Table 256 Desc} {seen : List DescId} {d : DescId} (fuel : Nat) (hd : d ∉ seen)
    (hroom : seen.length < Config.chainLimit) (howner : (look descs d).owner = .host)
    (hnext : (look descs d).next = none) : walkFrom descs (fuel + 1) seen d = .held (seen ++ [d]) := by
  simp only [walkFrom, if_neg hd, if_neg (Nat.not_le.mpr hroom), if_neg (not_not.mpr howner), hnext]

theorem walkFrom_next {descs : Table 256 Desc} {seen : List DescId} {d e : DescId} (fuel : Nat) (hd : d ∉ seen)
    (hroom : seen.length < Config.chainLimit) (howner : (look descs d).owner = .host)
    (hnext : (look descs d).next = some e) :
    walkFrom descs (fuel + 1) seen d = walkFrom descs fuel (seen ++ [d]) e := by
  simp only [walkFrom, if_neg hd, if_neg (Nat.not_le.mpr hroom), if_neg (not_not.mpr howner), hnext]

/-! ## The walk of PUSH along a list of descriptors (R15, R27) -/

theorem allOwned_cons {s : State} {d : DescId} {ds : List DescId} {o : Owner} :
    allOwned s (d :: ds) o = true ↔ (s.desc d).owner = o ∧ allOwned s ds o = true := by
  simp only [allOwned, List.all_cons, Bool.and_eq_true, beq_iff_eq]

theorem allOwned_concat {s : State} {d : DescId} {ds : List DescId} {o : Owner} :
    allOwned s (ds ++ [d]) o = true ↔ allOwned s ds o = true ∧ (s.desc d).owner = o := by
  simp only [allOwned, List.all_append, List.all_cons, List.all_nil, Bool.and_true, Bool.and_eq_true, beq_iff_eq]

section
variable {s : State} {seen ms : List DescId} {d : DescId}

/-- The first place of a walk that has room for all of `d :: ms` is new and not the 17th. -/
theorem head_fits (hnodup : (seen ++ d :: ms).Nodup) (hlen : (seen ++ d :: ms).length ≤ Config.chainLimit) :
    d ∉ seen ∧ seen.length < Config.chainLimit := by
  obtain ⟨-, -, hdisjoint⟩ := List.nodup_append'.mp hnodup
  rw [List.length_append, List.length_cons] at hlen
  exact ⟨fun hmem => hdisjoint hmem List.mem_cons_self, by omega⟩

/-- A walk passes through descriptors of the host, linked and without repeats, while there is room, and goes on at what
the last of them names. -/
theorem walkFrom_leadsTo {e : DescId} (hlead : leadsTo s (d :: ms) e = true) (hnodup : (seen ++ d :: ms).Nodup)
    (hlen : (seen ++ d :: ms).length ≤ Config.chainLimit) (hown : allOwned s (d :: ms) .host = true) (fuel : Nat) :
    walkFrom s.descs (fuel + (d :: ms).length) seen d = walkFrom s.descs fuel (seen ++ d :: ms) e := by
  induction ms generalizing seen d with
  | nil =>
    obtain ⟨hnew, hroom⟩ := head_fits hnodup hlen
    exact walkFrom_next fuel hnew hroom (allOwned_cons.mp hown).1 (beq_iff_eq.mp hlead)
  | cons d' ms ih =>
    obtain ⟨hnew, hroom⟩ := head_fits hnodup hlen
    obtain ⟨howner, hrest⟩ := allOwned_cons.mp hown
    obtain ⟨hnext, hlead⟩ : (s.desc d).next = some d' ∧ leadsTo s (d' :: ms) e = true := by
      simpa [leadsTo] using hlead
    rw [List.append_cons] at hnodup hlen ⊢
    exact (walkFrom_next _ hnew hroom howner hnext).trans (ih hlead hnodup hlen hrest)

/-- The walk of PUSH past at most 16 descriptors of the host arrives at what the last of them names with at least one
more place to look at. -/
theorem State.walk_of_leadsTo {e : DescId} (hlead : leadsTo s (d :: ms) e = true) (hnodup : (d :: ms).Nodup)
    (hlen : (d :: ms).length ≤ Config.chainLimit) (hown : allOwned s (d :: ms) .host = true) :
    ∃ fuel, s.walk d = walkFrom s.descs (fuel + 1) (d :: ms) e := by
  obtain ⟨fuel, hfuel⟩ : ∃ fuel, Config.chainLimit + 1 = fuel + 1 + (d :: ms).length :=
    ⟨Config.chainLimit - (d :: ms).length, by omega⟩
  refine ⟨fuel, ?_⟩
  rw [State.walk, hfuel]
  exact walkFrom_leadsTo (seen := []) hlead hnodup hlen hown (fuel + 1)

/-- A list is linked up to its last descriptor, which names none. -/
theorem linked_concat {e : DescId} :
    linked s (d :: (ms ++ [e])) = true ↔ leadsTo s (d :: ms) e = true ∧ (s.desc e).next = none := by
  induction ms generalizing d with
  | nil => simp only [List.nil_append, linked, leadsTo, Bool.and_eq_true, beq_iff_eq]
  | cons d' ms ih =>
    rw [List.cons_append, linked, leadsTo, Bool.and_eq_true, Bool.and_eq_true, ih, and_assoc]

/-- The walk of PUSH holds a whole chain of the host: it passes all but the last descriptor, and ends there. -/
theorem State.walk_of_isChain (hchain : isChain s (d :: ms) = true) (hown : allOwned s (d :: ms) .host = true) :
    s.walk d = .held (d :: ms) := by
  simp only [isChain, Bool.and_eq_true, decide_eq_true_eq] at hchain
  obtain ⟨⟨hlink, hnodup⟩, hlen⟩ := hchain
  obtain rfl | ⟨ms, e, rfl⟩ := ms.eq_nil_or_concat'
  · exact walkFrom_last _ List.not_mem_nil (by decide) (allOwned_cons.mp hown).1 (beq_iff_eq.mp hlink)
  · obtain ⟨hlead, hnext⟩ := linked_concat.mp hlink
    rw [← List.cons_append] at hnodup hlen hown ⊢
    obtain ⟨hpassed, howner⟩ := allOwned_concat.mp hown
    obtain ⟨hnew, hpassedNodup⟩ := (List.nodup_concat _ _).mp (List.concat_eq_append ▸ hnodup)
    rw [List.length_append, List.length_singleton] at hlen
    obtain ⟨fuel, hwalk⟩ := State.walk_of_leadsTo hlead hpassedNodup (by omega) hpassed
    rw [hwalk, walkFrom_last fuel hnew (by omega) howner hnext]

end

/-! ## PUSH (R27, R28) -/

theorem pushMembers_queue (s : State) (q r : QueueId) (d : DescId) (members : List DescId) :
    (s.pushMembers q d members).queue r = if q = r then s.queue q ++ [d] else s.queue r := by
  simp only [State.pushMembers, State.queue_setQueue, State.queue_setOwner_other, setOwners_queue]

theorem exec_push_badArgument {q d : Byte} {s : State} (hs : portTakes s = true) (hq : 32 ≤ q.toNat) :
    exec (.push q d) s = .next (s.refuse .badArgument) := by
  simp only [exec, execPush, State.atPort_of_portTakes _ hs, inRange_eq_none hq]

section
variable {q d : Byte} {qi : QueueId} {h : DescId} {s : State}

theorem exec_push_held {members : List DescId} (hs : portTakes s = true) (hq : q.toNat = qi.val)
    (hd : d.toNat = h.val) (hw : s.walk h = .held members) :
    exec (.push q d) s = .next ((s.pushMembers qi h members).answering .done []) := by
  simp only [exec, execPush, State.atPort_of_portTakes _ hs, inRange_eq_some hq, descOf_eq hd, hw]

theorem exec_push_badChain (hs : portTakes s = true) (hq : q.toNat = qi.val) (hd : d.toNat = h.val)
    (hw : s.walk h = .badChain) : exec (.push q d) s = .next (s.refuse .badChain) := by
  simp only [exec, execPush, State.atPort_of_portTakes _ hs, inRange_eq_some hq, descOf_eq hd, hw]

theorem exec_push_notHeld (hs : portTakes s = true) (hq : q.toNat = qi.val) (hd : d.toNat = h.val)
    (hw : s.walk h = .notHeld) : exec (.push q d) s = .next (s.refuse .notHeld) := by
  simp only [exec, execPush, State.atPort_of_portTakes _ hs, inRange_eq_some hq, descOf_eq hd, hw]

end

/-- Settles O9: the queue argument is decided first; after it PUSH answers what its walk finds, which is settled at the
first place (`walkFrom_notHeld`), behind the descriptors of the host that the walk passes (`State.walk_of_leadsTo`), or
at the end of a whole chain (`State.walk_of_isChain`). -/
theorem pushChecksInOrder : Obligations.PushChecksInOrder := by
  intro q d h s hs hd
  refine ⟨exec_push_badArgument hs, fun qi hq => ⟨fun howner => ?first, fun ms e hlead hnodup hlen hown => ?behind,
    fun ms hchain hown => ?chain⟩⟩
  case first =>
    exact exec_push_notHeld hs hq hd (walkFrom_notHeld _ List.not_mem_nil (by decide) howner)
  case behind =>
    obtain ⟨fuel, hwalk⟩ := State.walk_of_leadsTo hlead hnodup hlen hown
    refine ⟨fun hrepeat => exec_push_badChain hs hq hd ?_, fun hnew hfull => exec_push_badChain hs hq hd ?_,
      fun hnew hroom howner => exec_push_notHeld hs hq hd ?_⟩
    · rw [hwalk, walkFrom_repeat fuel hrepeat]
    · rw [hwalk, walkFrom_full fuel hnew hfull.ge]
    · rw [hwalk, walkFrom_notHeld fuel hnew hroom howner]
  case chain =>
    refine ⟨_, exec_push_held hs hq hd (State.walk_of_isChain hchain hown), rfl, ?_⟩
    rw [State.queue_answering_other, pushMembers_queue, if_pos rfl]

/-! ## POP (R29) -/

theorem exec_pop_badArgument {q : Byte} {s : State} (hs : portTakes s = true) (hq : 32 ≤ q.toNat) :
    exec (.pop q) s = .next (s.refuse .badArgument) := by
  simp only [exec, execPop, State.atPort_of_portTakes _ hs, inRange_eq_none hq]

theorem exec_pop_empty {q : Byte} {qi : QueueId} {s : State} (hs : portTakes s = true) (hq : q.toNat = qi.val)
    (hempty : s.queue qi = []) : exec (.pop q) s = .next (s.refuse .empty) := by
  simp only [exec, execPop, State.atPort_of_portTakes _ hs, inRange_eq_some hq, hempty]

theorem exec_pop_taken {q : Byte} {qi : QueueId} {h : DescId} {rest : List DescId} {s : State}
    (hs : portTakes s = true) (hq : q.toNat = qi.val) (hqueue : s.queue qi = h :: rest) :
    exec (.pop q) s = .next (((s.setQueue qi rest).setOwners (s.chain h) .host).answering .done
      [byteOf h.val, byteOf (s.chain h).length]) := by
  simp only [exec, execPop, State.atPort_of_portTakes _ hs, inRange_eq_some hq, hqueue]

/-- Settles O10: with an entry waiting, the state after POP is one queue replaced and the owners of its chain changed, so
the laws of `setQueue` and `setOwners` say what it holds. -/
theorem popHandsChainToHost : Obligations.PopHandsChainToHost := by
  intro q s hs
  refine ⟨exec_pop_badArgument hs, fun qi hq => ⟨exec_pop_empty hs hq, fun h ms rest hqueue hchain => ?_⟩⟩
  rw [exec_pop_taken hs hq hqueue, chain_of_isChain s hchain]
  refine ⟨_, rfl, ?frame, fun r => ?queues, fun e => ?descs⟩
  case frame =>
    rw [setOwners_frame]
    rfl
  case queues =>
    rw [State.queue_answering_other, setOwners_queue, State.queue_setQueue]
    simp only [eq_comm]
  case descs => rw [State.desc_answering_other, setOwners_desc, State.desc_setQueue_other]

/-! ## QUEUE_STATUS and READ_DESC (R18, R30, R195) -/

theorem exec_queueStatus_badArgument {q : Byte} {s : State} (hs : portTakes s = true) (hq : 32 ≤ q.toNat) :
    exec (.queueStatus q) s = .next (s.refuse .badArgument) := by
  simp only [exec, execQueueStatus, State.atPort_of_portTakes _ hs, inRange_eq_none hq]

theorem exec_queueStatus {q : Byte} {qi : QueueId} {s : State} (hs : portTakes s = true) (hq : q.toNat = qi.val) :
    exec (.queueStatus q) s = .next
      (s.answering .done (wordBytes (s.queue qi).length ++ refBytes (s.queue qi).head?)) := by
  simp only [exec, execQueueStatus, State.atPort_of_portTakes _ hs, inRange_eq_some hq]

theorem exec_readDesc {d : Byte} {i : DescId} {s : State} (hs : portTakes s = true) (hd : d.toNat = i.val) :
    exec (.readDesc d) s = .next (s.answering .done (descRecord (s.desc i))) := by
  simp only [exec, execReadDesc, State.atPort_of_portTakes _ hs, descOf_eq hd]

/-- The status code of a descriptor is its place in the list of R195. -/
theorem descStatusByte_eq_idxOf (st : DescStatus) :
    descStatusByte st = BitVec.ofNat 8 ([DescStatus.none, .received, .delivered, .cancelled, .closed, .lost, .noAnswer,
      .peerBusy, .absent, .malformed, .marker].idxOf st) := by
  cases st <;> rfl

/-- The answer of READ_DESC around the two values whose bytes depend on their case: the next link and the owner. -/
theorem descRecord_answer {x : Desc} {next owner : List Byte} (hnext : refBytes x.next = next)
    (howner : ownerBytes x.owner = owner) :
    statusByte .done :: descRecord x = [0xA0#8, byteOf x.fill] ++ next
      ++ [byteOf x.returnQueue.val, x.label, descStatusByte x.status, byteOf x.peer.val, byteOf x.channel.val,
          byteOf (x.total / 256), byteOf x.total, byteOf x.segments] ++ owner := by
  subst hnext howner
  simp only [descRecord, wordBytes, statusByte, List.append_assoc, List.cons_append, List.nil_append]

/-- Settles O11: both reads only set the answer; its bytes are compared where they depend on a case, which is the head of
the queue, the next link and the owner. -/
theorem queueAndDescriptorReads : Obligations.QueueAndDescriptorReads := by
  refine ⟨fun q s hs => ⟨exec_queueStatus_badArgument hs, fun qi hq => ?status⟩, fun d i s hs hd => ?record⟩
  case status =>
    rw [exec_queueStatus hs hq]
    cases s.queue qi <;> rfl
  case record =>
    intro x
    subst x
    rw [exec_readDesc hs hd, ← descStatusByte_eq_idxOf]
    refine congrArg (fun bytes => Host.Outcome.next { s with answer := bytes }) (descRecord_answer ?next ?owner)
    case next => cases (s.desc i).next <;> rfl
    case owner => cases (s.desc i).owner <;> rfl

end Sys2Proof.Machine
end

section
/-! PROOFS. Status, events and counters: when ATTN# is driven low (R39, R160). -/

namespace Sys2Proof.Machine

theorem Events.any_iff (e : Events) :
    e.any = true ↔ e.fault = true ∨ e.noMarker = true ∨ e.slip = true ∨ e.abandon = true ∨ e.drop = true
      ∨ e.malformed = true := by
  simp only [Events.any, Bool.or_eq_true, or_assoc]

theorem mem_allQueues (q : QueueId) : q ∈ allQueues := List.mem_finRange q

/-- The list of the 32 queues leaves none out, so the search over it is an existential over queue numbers. -/
theorem allQueues_any_iff (p : QueueId → Bool) : allQueues.any p = true ↔ ∃ q, p q = true := by
  simp only [List.any_eq_true, mem_allQueues, true_and]

theorem State.masked_waiting_iff (s : State) (q : QueueId) :
    (s.masked q && !(s.queue q).isEmpty) = true ↔ s.cfg.mask.getLsbD q.val = true ∧ s.queue q ≠ [] := by
  rw [Bool.and_eq_true, State.masked, Bool.not_eq_true', List.isEmpty_eq_false_iff]

/-- Settles O50: ATTN# joins the event flags (`Events.any_iff`) with the search over all queues, which finds one exactly
when some masked queue has an entry (`allQueues_any_iff`, `State.masked_waiting_iff`). -/
theorem attentionFollowsQueuesAndFlags : Obligations.AttentionFollowsQueuesAndFlags := by
  intro s
  have hqueues : (allQueues.any fun q => s.masked q && !(s.queue q).isEmpty) = true ↔
      ∃ q : QueueId, s.cfg.mask.getLsbD q.val = true ∧ s.queue q ≠ [] :=
    (allQueues_any_iff _).trans (exists_congr s.masked_waiting_iff)
  rw [State.attnLow, Bool.or_eq_true, Events.any_iff, hqueues, or_comm]

end Sys2Proof.Machine
end

section
/-! PROOFS. The schedule and FIX (R83, R86, R110, R185 to R187). -/

namespace Sys2Proof.Machine

-- One declaration after another, as in the queue commands: side by side these proofs add threads to those that wait for
-- the equations of `exec`, and the compile runs into its memory limit.
set_option Elab.async false

/-! ## Configuration commands (R181) -/

/-- In UNCONFIGURED, at a port that takes commands, a configuration command has its own effect. -/
theorem State.whenUnconfigured_taken {s : State} (act : State) (hport : s.portSkips = false)
    (hstation : s.station = .unconfigured) : s.whenUnconfigured act = act := by
  rw [State.whenUnconfigured, s.atPort_taken _ hport (by simp [hstation]), if_pos hstation]

/-! ## Schedule entries (R185, R193) -/

/-- A schedule entry byte of R193 that is none of 00h to 07h is FFh, the EMPTY entry. -/
theorem scheduleEntryOf_eq_some {b : Byte} (h : b.toNat < 8 ∨ b = 0xFF#8) :
    scheduleEntryOf b = some (inRange 8 b) := by
  unfold scheduleEntryOf inRange
  by_cases hb : b.toNat < 8
  · rw [dif_pos hb, dif_pos hb]
  · rw [dif_neg hb, dif_neg hb, if_pos (h.resolve_left hb)]

theorem scheduleEntryOf_eq_none {b : Byte} (hb : 8 ≤ b.toNat) (hempty : b ≠ 0xFF#8) : scheduleEntryOf b = none := by
  rw [scheduleEntryOf, dif_neg (Nat.not_lt.mpr hb), if_neg hempty]

theorem scheduleOf_eq_some {entries : List Byte} (h : ∀ b ∈ entries, b.toNat < 8 ∨ b = 0xFF#8) :
    scheduleOf entries = some (entries.map (inRange 8)) := by
  induction entries with
  | nil => rfl
  | cons b bs ih =>
    obtain ⟨hb, hbs⟩ := List.forall_mem_cons.mp h
    rw [scheduleOf, scheduleEntryOf_eq_some hb, ih hbs, List.map_cons]

theorem scheduleOf_eq_none {entries : List Byte} (h : ∃ b ∈ entries, 8 ≤ b.toNat ∧ b ≠ 0xFF#8) :
    scheduleOf entries = none := by
  induction entries with
  | nil => simp at h
  | cons b bs ih =>
    obtain ⟨bad, hmem, hvalue, hempty⟩ := h
    obtain rfl | hmem := List.mem_cons.mp hmem
    · rw [scheduleOf, scheduleEntryOf_eq_none hvalue hempty]
    · rw [scheduleOf, ih ⟨bad, hmem, hvalue, hempty⟩]
      cases scheduleEntryOf b <;> rfl

/-- Entries put from `k` on cover the entries from `k` to the end of the list; the rest stay. -/
theorem look_putEntries (t : Table 32 (Option ChanId)) (k : Nat) (xs : List (Option ChanId)) (e : Fin 32) :
    look (putEntries t k xs) e = if k ≤ e.val then xs[e.val - k]?.getD (look t e) else look t e := by
  induction xs generalizing t k with
  | nil => simp [putEntries]
  | cons x xs ih =>
    rw [putEntries, ih]
    obtain hbefore | hhere | hafter := Nat.lt_trichotomy e.val k
    · rw [if_neg (by omega), if_neg (by omega)]
      split_ifs with hk
      · exact look_put_ne t x (Fin.ne_of_gt hbefore)
      · rfl
    · subst hhere
      simp
    · obtain ⟨j, hj⟩ := Nat.exists_eq_add_of_lt hafter
      rw [if_pos (by omega), if_pos (by omega), show e.val - k = j + 1 by omega, show e.val - (k + 1) = j by omega,
        List.getElem?_cons_succ]
      split_ifs with hk
      · rw [look_put_ne t x (Fin.ne_of_lt hafter)]
      · rfl

/-- A whole table from a list of entry bytes: entry `e` is what byte `e` names, and EMPTY past the last byte. -/
theorem look_putEntries_filled (entries : List Byte) (e : Fin 32) :
    look (putEntries (filled 32 none) 0 (entries.map (inRange 8))) e = entries[e.val]?.bind (inRange 8) := by
  rw [look_putEntries, if_pos (Nat.zero_le _), look_filled, Nat.sub_zero, List.getElem?_map]
  cases entries[e.val]? <;> rfl

/-! ## DEFINE_SCHEDULE (R185) -/

theorem argsNeeded_defineSchedule (len : Byte) : argsNeeded 0x13#8 [len] = some (1 + announced 32 len) := rfl

section
variable {len : Byte} {entries : List Byte} {s : State}

theorem exec_defineSchedule_badLength (hport : s.portSkips = false) (hstation : s.station = .unconfigured)
    (hlen : announced 32 len = 0) : exec (.defineSchedule len []) s = .next (s.refuse .badArgument) := by
  change execDefineSchedule len [] s = _
  rw [execDefineSchedule, hlen, if_neg (Nat.not_lt_zero _), State.whenUnconfigured_taken _ hport hstation, if_pos rfl]

/-- DEFINE_SCHEDULE with the entry bytes its length announces is decided by the reading of those bytes. -/
theorem exec_defineSchedule_announced (hport : s.portSkips = false) (hstation : s.station = .unconfigured)
    (hpos : 1 ≤ len.toNat) (hle : len.toNat ≤ 32) (hcount : entries.length = len.toNat) :
    exec (.defineSchedule len entries) s = .next (((scheduleOf entries).map fun es =>
      { s with cfg := { s.cfg with schedule := putEntries (filled 32 none) 0 es, length := len.toNat } }.answering
        .done []).getD (s.refuse .badArgument)) := by
  change execDefineSchedule len entries s = _
  have hnone : announced 32 len ≠ 0 := by rw [announced_of_le hle]; omega
  rw [execDefineSchedule, State.whenUnconfigured_taken _ hport hstation, if_neg hnone, announced_of_le hle, ← hcount,
    if_neg (Nat.lt_irrefl _), List.take_length]
  cases scheduleOf entries <;> rfl

end

/-- Settles O5: the length byte decides how many entry bytes belong to the command; then their reading decides
(`scheduleOf_eq_none`, `scheduleOf_eq_some`), and the table it stores is read off by `look_putEntries_filled`. -/
theorem scheduleReplaced : Obligations.ScheduleReplaced := by
  intro len entries s hport hstation
  refine ⟨?needed, fun hbad => ?badLength, fun hpos hle hcount => ⟨fun hentry => ?badEntry, fun hentries => ?done⟩⟩
  case needed => rw [argsNeeded_defineSchedule, announced_eq]
  case badLength =>
    have hzero : announced 32 len = 0 := by rw [announced_eq, if_neg (by omega)]
    exact exec_defineSchedule_badLength hport hstation hzero
  case badEntry =>
    rw [exec_defineSchedule_announced hport hstation hpos hle hcount, scheduleOf_eq_none hentry]
    rfl
  case done =>
    rw [exec_defineSchedule_announced hport hstation hpos hle hcount, scheduleOf_eq_some hentries]
    exact ⟨_, rfl, rfl, rfl, look_putEntries_filled entries⟩

/-! ## The checks of FIX (R86, R186) -/

/-- An entry in use names the transmit channel, by the entries of the table (R86, R186). -/
def State.Names (s : State) (n : ChanId) : Prop :=
  ∃ e : Fin 32, e.val < s.cfg.length ∧ look s.cfg.schedule e = some n

theorem State.named_iff {s : State} (hlen : s.cfg.length ≤ 32) (n : ChanId) : s.named n = true ↔ s.Names n := by
  simp only [State.named, State.activeEntries, List.contains_iff_mem, List.mem_map, List.mem_range, State.Names]
  constructor
  · rintro ⟨e, hactive, hentry⟩
    have he : e < 32 := by omega
    rw [State.scheduled, dif_pos he] at hentry
    exact ⟨⟨e, he⟩, hactive, hentry⟩
  · rintro ⟨e, hactive, hentry⟩
    exact ⟨e.val, hactive, by rw [State.scheduled, dif_pos e.isLt, hentry]⟩

theorem State.txDefined_iff (s : State) (n : ChanId) : s.txDefined n = true ↔ (s.txc n).defn ≠ none :=
  Option.isSome_iff_ne_none

/-- The list of the eight channels leaves none out, so a search over it is a statement about every channel number. -/
theorem allChans_all_iff (p : ChanId → Bool) : allChans.all p = true ↔ ∀ n, p n = true := by
  simp only [List.all_eq_true, mem_allChans, true_imp_iff]

theorem allChans_any_iff (p : ChanId → Bool) : allChans.any p = true ↔ ∃ n, p n = true := by
  simp only [List.any_eq_true, mem_allChans, true_and]

theorem State.mem_submitQueues {s : State} {q : QueueId} :
    q ∈ s.submitQueues ↔ ∃ n a, (s.txc n).defn = some a ∧ a.submit = q := by
  simp only [State.submitQueues, List.mem_filterMap, mem_allChans, true_and, Option.map_eq_some_iff]

theorem State.mem_closedQueues {s : State} {q : QueueId} :
    q ∈ s.closedQueues ↔ q = s.cfg.markerPool ∨ ∃ m b, (s.rxc m).defn = some b
      ∧ (q = b.headPool ∨ q = b.bodyPool ∨ q = b.delivery) := by
  simp only [State.closedQueues, List.mem_cons, List.mem_flatMap, mem_allChans, true_and]
  refine or_congr_right (exists_congr fun m => ?_)
  cases (s.rxc m).defn <;> simp

/-- The submit queues repeat exactly when two channels have the same one (R186). -/
theorem State.submitQueues_repeat_iff (s : State) :
    ¬ s.submitQueues.Nodup ↔ ∃ n m a b, n ≠ m ∧ (s.txc n).defn = some a ∧ (s.txc m).defn = some b
      ∧ a.submit = b.submit := by
  constructor
  · contrapose!
    intro hdistinct
    refine allChans_nodup.filterMap fun n m q hn hm => ?_
    obtain ⟨a, ha, rfl⟩ := Option.map_eq_some_iff.mp hn
    obtain ⟨b, hb, hsame⟩ := Option.map_eq_some_iff.mp hm
    by_contra hne
    exact hdistinct n m a b hne ha hb hsame.symm
  · rintro ⟨n, m, a, b, hne, ha, hb, hsame⟩ hnodup
    have hpairs := List.pairwise_filterMap.mp hnodup
    have hsymm : Std.Symm fun n m : ChanId => ∀ q, (s.txc n).defn.map (·.submit) = some q →
        ∀ r, (s.txc m).defn.map (·.submit) = some r → q ≠ r :=
      ⟨fun _ _ h q hq r hr => (h r hr q hq).symm⟩
    exact hpairs.forall (mem_allChans n) (mem_allChans m) hne a.submit (by rw [ha]; rfl) b.submit (by rw [hb]; rfl) hsame

/-- Check `k` of FIX fails, by the test the model makes for it (R186). -/
def State.checkFails (s : State) : Nat → Bool
  | 1 => allChans.all fun n => !s.named n
  | 2 => allChans.any fun n => s.named n && !s.txDefined n
  | 3 => allChans.any fun n => s.txDefined n && !s.named n
  | 4 => !decide s.submitQueues.Nodup
  | 5 => s.submitQueues.any fun q => s.closedQueues.contains q
  | _ => false

section
variable {s : State}

theorem State.checkFails_one (hlen : s.cfg.length ≤ 32) : s.checkFails 1 = true ↔ ∀ n, ¬ s.Names n := by
  simp only [State.checkFails, allChans_all_iff, Bool.not_eq_true', ← Bool.not_eq_true, State.named_iff hlen]

theorem State.checkFails_two (hlen : s.cfg.length ≤ 32) :
    s.checkFails 2 = true ↔ ∃ n, s.Names n ∧ (s.txc n).defn = none := by
  simp only [State.checkFails, allChans_any_iff, Bool.and_eq_true, Bool.not_eq_true', ← Bool.not_eq_true,
    State.named_iff hlen, State.txDefined_iff, not_not]

theorem State.checkFails_three (hlen : s.cfg.length ≤ 32) :
    s.checkFails 3 = true ↔ ∃ n, (s.txc n).defn ≠ none ∧ ¬ s.Names n := by
  simp only [State.checkFails, allChans_any_iff, Bool.and_eq_true, Bool.not_eq_true', ← Bool.not_eq_true,
    State.named_iff hlen, State.txDefined_iff]

theorem State.checkFails_four : s.checkFails 4 = true ↔ ∃ n m a b, n ≠ m ∧ (s.txc n).defn = some a
    ∧ (s.txc m).defn = some b ∧ a.submit = b.submit := by
  rw [← State.submitQueues_repeat_iff, State.checkFails, Bool.not_eq_true', decide_eq_false_iff_not]

theorem State.checkFails_five : s.checkFails 5 = true ↔ ∃ n a, (s.txc n).defn = some a
    ∧ (a.submit = s.cfg.markerPool ∨ ∃ m b, (s.rxc m).defn = some b
      ∧ (a.submit = b.headPool ∨ a.submit = b.bodyPool ∨ a.submit = b.delivery)) := by
  simp only [State.checkFails, List.any_eq_true, List.contains_iff_mem, State.mem_submitQueues, State.mem_closedQueues]
  constructor
  · rintro ⟨_, ⟨n, a, ha, rfl⟩, hclosed⟩
    exact ⟨n, a, ha, hclosed⟩
  · rintro ⟨n, a, ha, hclosed⟩
    exact ⟨a.submit, ⟨n, a, ha, rfl⟩, hclosed⟩

/-- The model's check byte in terms of its five tests. -/
theorem State.fixCheck_eq : s.fixCheck =
    if s.checkFails 1 then 1 else if s.checkFails 2 then 2 else if s.checkFails 3 then 3
    else if s.checkFails 4 then 4 else if s.checkFails 5 then 5 else 0 := by
  simp only [State.fixCheck, State.checkFails, Bool.not_eq_true', decide_eq_false_iff_not]

theorem State.fixCheck_eq_of_first {k : Nat} (hpos : 1 ≤ k) (hle : k ≤ 5) (hk : s.checkFails k = true)
    (hfirst : ∀ j, 1 ≤ j → j < k → ¬ s.checkFails j = true) : s.fixCheck = k := by
  rw [State.fixCheck_eq]
  interval_cases k <;> simp [hk, hfirst]

theorem State.fixCheck_eq_zero (h : ∀ k, ¬ s.checkFails k = true) : s.fixCheck = 0 := by
  simp only [State.fixCheck_eq, h, Bool.false_eq_true, if_false]

end

/-! ## FIX answered DONE (R83, R110, R187) -/

/-- The transmit channels' part of FIX answered DONE. -/
def State.fixTx (s : State) : State := allChans.foldl (fun t n => t.setTx n (t.txc n).fixed) s

/-- The receive channels' part of FIX answered DONE. -/
def State.fixRx (s : State) : State := allChans.foldl (fun t n => t.setRx n (t.rxc n).fixed) s

theorem State.fixTx_spec (s : State) :
    s.fixTx = { s with tx := s.fixTx.tx } ∧ ∀ n, s.fixTx.txc n = (s.txc n).fixed := by
  obtain ⟨hframe, htxc⟩ := foldl_setTx TxChan.fixed _ allChans_nodup s fun _ _ _ _ => rfl
  exact ⟨hframe, fun n => (htxc n).trans (if_pos (mem_allChans n))⟩

theorem State.fixRx_spec (s : State) :
    s.fixRx = { s with rx := s.fixRx.rx } ∧ ∀ n, s.fixRx.rxc n = (s.rxc n).fixed := by
  obtain ⟨hframe, hrxc⟩ := foldl_setRx RxChan.fixed _ allChans_nodup s fun _ _ _ _ => rfl
  exact ⟨hframe, fun n => (hrxc n).trans (if_pos (mem_allChans n))⟩

theorem State.freeze_eq (s : State) : s.freeze = { s.fixTx.fixRx with cursor := 0, station := .offline } := rfl

/-- FIX answered DONE gives every channel its running values and takes the station OFFLINE with the cursor at 0; nothing
else changes (R83, R110, R187). -/
theorem State.freeze_spec (s : State) :
    s.freeze = { s with station := .offline, cursor := 0, tx := s.freeze.tx, rx := s.freeze.rx }
    ∧ (∀ n, s.freeze.txc n = (s.txc n).fixed) ∧ ∀ n, s.freeze.rxc n = (s.rxc n).fixed := by
  obtain ⟨htx, htxc⟩ := s.fixTx_spec
  obtain ⟨hrx, hrxc⟩ := s.fixTx.fixRx_spec
  rw [State.freeze_eq]
  generalize s.fixTx.fixRx = v at hrx hrxc ⊢
  generalize s.fixTx = u at htx htxc hrx hrxc
  refine ⟨?frame, fun n => ?tx, fun n => ?rx⟩
  case frame => rw [hrx, htx]
  case tx =>
    rw [hrx]
    exact htxc n
  case rx =>
    refine (hrxc n).trans ?_
    rw [htx]
    rfl

/-! ## FIX (R186, R187) -/

theorem exec_fix {s : State} (hport : s.portSkips = false) (hstation : s.station = .unconfigured) :
    exec .fix s = .next (if s.fixCheck = 0 then s.freeze.answering .done [0x00#8]
      else s.answering .badConfig [byteOf s.fixCheck]) :=
  congrArg Host.Outcome.next (State.whenUnconfigured_taken _ hport hstation)

/-- Settles O6: the five conditions are the model's five tests (`State.checkFails_one` to `State.checkFails_five`), whose
first failure is the check byte; with none, the state after FIX is that of `State.freeze_spec`. -/
theorem fixChecksThenFreezes : Obligations.FixChecksThenFreezes := by
  intro s hport hstation hlen named fails
  have hfails : ∀ k, fails k ↔ s.checkFails k = true
    | 0 => by simp [fails, State.checkFails]
    | 1 => (State.checkFails_one hlen).symm
    | 2 => (State.checkFails_two hlen).symm
    | 3 => (State.checkFails_three hlen).symm
    | 4 => State.checkFails_four.symm
    | 5 => State.checkFails_five.symm
    | k + 6 => by simp [fails, State.checkFails]
  simp only [hfails, exec_fix hport hstation]
  refine ⟨fun k hpos hle hk hfirst => ?refused, fun hpass => ?frozen⟩
  case refused =>
    have hcheck : s.fixCheck = k := State.fixCheck_eq_of_first hpos hle hk hfirst
    rw [hcheck, if_neg (by omega)]
    rfl
  case frozen =>
    rw [if_pos (State.fixCheck_eq_zero hpass)]
    obtain ⟨hframe, htxc, hrxc⟩ := s.freeze_spec
    generalize s.freeze = u at hframe htxc hrxc ⊢
    refine ⟨_, rfl, ?_, fun n => ?_, fun n => ?_⟩
    · rw [hframe]
      rfl
    · rw [State.txc_answering_other, htxc]
      rfl
    · rw [State.rxc_answering_other, hrxc]
      rfl

end Sys2Proof.Machine
end

section

set_option Elab.async false

section
/-! PROOFS. What a step is made of: the single updates that the engines, the turn controller and the host commands apply
one after the other, sorted by the part of the state they may touch. The invariants of packet memory, the schedule, the
counters, the fills and the roster follow from them, and so does what no command but a reset changes. -/

namespace Sys2Proof.Machine

open Sys2Proof.Safety

/-! ## Single updates -/

/-- The parts of the state of which an update of a kind may touch exactly one; descriptors, queues, tallies, event flags,
station counters and the host port's answer are no kind of their own. -/
inductive Part where
  | tx | rx | roster | line | request | station | cursor | memory
  deriving DecidableEq

/-- The station counters stay within their limit (R164). -/
def Counters.InRange (c : Counters) : Prop :=
  c.dataSent ≤ Config.counterLimit ∧ c.passSent ≤ Config.counterLimit ∧ c.replySent ≤ Config.counterLimit
  ∧ c.invalidHeard ≤ Config.counterLimit ∧ c.slips ≤ Config.counterLimit ∧ c.collisions ≤ Config.counterLimit
  ∧ c.unanswered ≤ Config.counterLimit

/-- A record's status, total and segments are those of another, or it is not RECEIVED. -/
def Desc.NotDelivered (x y : Desc) : Prop :=
  x.status = y.status ∧ x.total = y.total ∧ x.segments = y.segments ∨ x.status ≠ .received

/-- One update, of a part that `P` allows: channels keep their definitions, counts stay in range, the configuration and the
own address are never touched, and only the receive engine makes a descriptor RECEIVED. -/
inductive Update (P : Part → Prop) (s : State) : State → Prop where
  | desc (d : DescId) (x : Desc) (fill : x.fill = (s.desc d).fill ∨ x.fill ≤ Config.bufferSize)
      (sizes : P .rx ∨ x.NotDelivered (s.desc d)) : Update P s (s.setDesc d x)
  | queue (q : QueueId) (l : List DescId) : Update P s (s.setQueue q l)
  | tallies (v : Table 8 (Table 16 (Option Tally))) : Update P s { s with tallies := v }
  | events (e : Events) : Update P s { s with events := e }
  | counters (c : Counters) (range : s.counters.InRange → c.InRange) : Update P s { s with counters := c }
  | port (answer : List Byte) (skips : Bool) : Update P s { s with answer := answer, portSkips := skips }
  | tx (allowed : P .tx) (n : ChanId) (c : TxChan) (defn : c.defn = (s.txc n).defn) : Update P s (s.setTx n c)
  | rx (allowed : P .rx) (n : ChanId) (c : RxChan) (defn : c.defn = (s.rxc n).defn)
      (drops : c.drops = (s.rxc n).drops ∨ c.drops ≤ Config.channelCounterLimit)
      (abandons : c.abandons = (s.rxc n).abandons ∨ c.abandons ≤ Config.channelCounterLimit) : Update P s (s.setRx n c)
  | roster (allowed : P .roster) (r : Table 16 RosterEntry) (sound : RosterSound s → RosterSound { s with roster := r }) :
      Update P s { s with roster := r }
  | line (allowed : P .line) (turn : TurnControl) (line : Line) (since : Nat) (low : Bool) :
      Update P s { s with turn := turn, line := line, sinceLow := since, rxdLow := low }
  | request (allowed : P .request) (r : Option Frame) : Update P s { s with request := r }
  | station (allowed : P .station) (st : StationState) (fixed : st ≠ .starting ∧ st ≠ .unconfigured) :
      Update P s { s with station := st }
  | cursor (allowed : P .cursor) (k : Nat) (active : 1 ≤ s.cfg.length → k < s.cfg.length)
      (fixed : s.station = .starting ∨ s.station = .unconfigured → k = 0) : Update P s { s with cursor := k }
  | memory (allowed : P .memory) (d : DescId) (o : Nat) (bs : List Byte) (size : o + bs.length ≤ Config.bufferSize) :
      Update P s (s.writeBuffer d o bs)

/-- Updates one after the other. -/
def Updates (P : Part → Prop) : State → State → Prop := Relation.ReflTransGen (Update P)

variable {P : Part → Prop} {s t : State}

theorem Updates.refl (s : State) : Updates P s s := Relation.ReflTransGen.refl

theorem Updates.add {u : State} (h : Updates P s t) (h1 : Update P t u) : Updates P s u := h.tail h1

theorem Updates.ite {c : Prop} [Decidable c] {u v : State} (h1 : c → Updates P s u) (h2 : ¬ c → Updates P s v) :
    Updates P s (if c then u else v) := by
  split
  · exact h1 ‹_›
  · exact h2 ‹_›

/-- A treatment of every channel is one of updates when it is at each. -/
theorem Updates.foldl {f : State → ChanId → State} (hf : ∀ u n, Updates P s u → Updates P s (f u n)) (l : List ChanId)
    (h : Updates P s t) : Updates P s (l.foldl f t) := by
  induction l generalizing t with
  | nil => exact h
  | cons n l ih => exact ih (hf t n h)

/-! ## What updates keep -/

theorem Update.cfg_eq (h : Update P s t) : t.cfg = s.cfg := by cases h <;> rfl
theorem Update.ownAddr_eq (h : Update P s t) : t.ownAddr = s.ownAddr := by cases h <;> rfl
theorem Update.pending_eq (h : Update P s t) : t.pending = s.pending := by cases h <;> rfl

theorem Update.txDefn_eq (h : Update P s t) (n : ChanId) : (t.txc n).defn = (s.txc n).defn := by
  cases h with
  | tx _ m c defn =>
    rw [State.txc_setTx]
    split
    · next hm => rw [← hm, defn]
    · rfl
  | _ => rfl

theorem Update.rxDefn_eq (h : Update P s t) (n : ChanId) : (t.rxc n).defn = (s.rxc n).defn := by
  cases h with
  | rx _ m c defn =>
    rw [State.rxc_setRx]
    split
    · next hm => rw [← hm, defn]
    · rfl
  | _ => rfl

section
variable (h : Update P s t)
include h

theorem Update.tx_eq (hP : ¬ P .tx) : t.tx = s.tx := by
  cases h with
  | tx allowed => exact absurd allowed hP
  | _ => rfl

theorem Update.rx_eq (hP : ¬ P .rx) : t.rx = s.rx := by
  cases h with
  | rx allowed => exact absurd allowed hP
  | _ => rfl

theorem Update.roster_eq (hP : ¬ P .roster) : t.roster = s.roster := by
  cases h with
  | roster allowed => exact absurd allowed hP
  | _ => rfl

theorem Update.line_eq (hP : ¬ P .line) :
    t.turn = s.turn ∧ t.line = s.line ∧ t.sinceLow = s.sinceLow ∧ t.rxdLow = s.rxdLow := by
  cases h with
  | line allowed => exact absurd allowed hP
  | _ => exact ⟨rfl, rfl, rfl, rfl⟩

theorem Update.request_eq (hP : ¬ P .request) : t.request = s.request := by
  cases h with
  | request allowed => exact absurd allowed hP
  | _ => rfl

theorem Update.station_eq (hP : ¬ P .station) : t.station = s.station := by
  cases h with
  | station allowed => exact absurd allowed hP
  | _ => rfl

theorem Update.mem_eq (hP : ¬ P .memory) : t.mem = s.mem := by
  cases h with
  | memory allowed => exact absurd allowed hP
  | _ => rfl

theorem Update.memoryCanonical (hs : MemoryCanonical s) : MemoryCanonical t := by
  cases h with
  | memory _ d o bs size => exact writeBuffer_wf s d o bs hs size
  | _ => exact hs

theorem Update.fillsInRange (hs : FillsInRange s) : FillsInRange t := by
  cases h with
  | desc d x fill =>
    intro e
    rw [State.desc_setDesc]
    split
    · exact fill.elim (fun hf => hf ▸ hs d) id
    · exact hs e
  | _ => exact hs

theorem Update.countersInRange (hs : CountersInRange s) : CountersInRange t := by
  obtain ⟨h1, h2, h3, h4, h5, h6, h7, hr⟩ := hs
  cases h with
  | counters c range =>
    obtain ⟨c1, c2, c3, c4, c5, c6, c7⟩ := range ⟨h1, h2, h3, h4, h5, h6, h7⟩
    exact ⟨c1, c2, c3, c4, c5, c6, c7, hr⟩
  | rx _ n c _ drops abandons =>
    refine ⟨h1, h2, h3, h4, h5, h6, h7, fun m => ?_⟩
    rw [State.rxc_setRx]
    split
    · exact ⟨drops.elim (fun hd => hd ▸ (hr n).1) id, abandons.elim (fun ha => ha ▸ (hr n).2) id⟩
    · exact hr m
  | _ => exact ⟨h1, h2, h3, h4, h5, h6, h7, hr⟩

theorem Update.deliveredSizes (hP : ¬ P .rx) (hs : DeliveredSizes s) : DeliveredSizes t := by
  cases h with
  | desc d x _ sizes =>
    intro e
    rw [State.desc_setDesc]
    split
    · obtain ⟨hst, htotal, hsegments⟩ | hst := sizes.resolve_left hP
      · rw [hst, htotal, hsegments]
        exact hs d
      · exact fun hreceived => absurd hreceived hst
    · exact hs e
  | _ => exact hs

theorem Update.rosterSound (hs : RosterSound s) : RosterSound t := by
  cases h with
  | roster _ r sound => exact sound hs
  | _ => exact hs

theorem Update.scheduleSound (hs : ScheduleSound s) : ScheduleSound t := by
  obtain ⟨hpos, hle, hcur, hzero⟩ := hs
  cases h with
  | station _ st fixed => exact ⟨hpos, hle, hcur, fun hst => absurd hst (not_or.mpr fixed)⟩
  | cursor _ k active fixed => exact ⟨hpos, hle, active hpos, fixed⟩
  | _ => exact ⟨hpos, hle, hcur, hzero⟩

end

/-- What every single update keeps, updates keep. -/
theorem Updates.keep {Q : State → Prop} (h : Updates P s t) (hs : Q s) (hQ : ∀ u v, Update P u v → Q u → Q v) : Q t := by
  induction h with
  | refl => exact hs
  | tail _ h1 ih => exact hQ _ _ h1 ih

section
variable (h : Updates P s t)
include h

theorem Updates.cfg_eq : t.cfg = s.cfg := h.keep (Q := fun u => u.cfg = s.cfg) rfl fun _ _ h1 hu => h1.cfg_eq.trans hu

theorem Updates.ownAddr_eq : t.ownAddr = s.ownAddr :=
  h.keep (Q := fun u => u.ownAddr = s.ownAddr) rfl fun _ _ h1 hu => h1.ownAddr_eq.trans hu

theorem Updates.pending_eq : t.pending = s.pending :=
  h.keep (Q := fun u => u.pending = s.pending) rfl fun _ _ h1 hu => h1.pending_eq.trans hu

theorem Updates.txDefn_eq (n : ChanId) : (t.txc n).defn = (s.txc n).defn :=
  h.keep (Q := fun u => (u.txc n).defn = (s.txc n).defn) rfl fun _ _ h1 hu => (h1.txDefn_eq n).trans hu

theorem Updates.rxDefn_eq (n : ChanId) : (t.rxc n).defn = (s.rxc n).defn :=
  h.keep (Q := fun u => (u.rxc n).defn = (s.rxc n).defn) rfl fun _ _ h1 hu => (h1.rxDefn_eq n).trans hu

theorem Updates.tx_eq (hP : ¬ P .tx) : t.tx = s.tx :=
  h.keep (Q := fun u => u.tx = s.tx) rfl fun _ _ h1 hu => (h1.tx_eq hP).trans hu

theorem Updates.rx_eq (hP : ¬ P .rx) : t.rx = s.rx :=
  h.keep (Q := fun u => u.rx = s.rx) rfl fun _ _ h1 hu => (h1.rx_eq hP).trans hu

theorem Updates.roster_eq (hP : ¬ P .roster) : t.roster = s.roster :=
  h.keep (Q := fun u => u.roster = s.roster) rfl fun _ _ h1 hu => (h1.roster_eq hP).trans hu

theorem Updates.turn_eq (hP : ¬ P .line) : t.turn = s.turn :=
  h.keep (Q := fun u => u.turn = s.turn) rfl fun _ _ h1 hu => (h1.line_eq hP).1.trans hu

theorem Updates.line_eq (hP : ¬ P .line) : t.line = s.line :=
  h.keep (Q := fun u => u.line = s.line) rfl fun _ _ h1 hu => (h1.line_eq hP).2.1.trans hu

theorem Updates.rxdLow_eq (hP : ¬ P .line) : t.rxdLow = s.rxdLow :=
  h.keep (Q := fun u => u.rxdLow = s.rxdLow) rfl fun _ _ h1 hu => (h1.line_eq hP).2.2.2.trans hu

theorem Updates.request_eq (hP : ¬ P .request) : t.request = s.request :=
  h.keep (Q := fun u => u.request = s.request) rfl fun _ _ h1 hu => (h1.request_eq hP).trans hu

theorem Updates.station_eq (hP : ¬ P .station) : t.station = s.station :=
  h.keep (Q := fun u => u.station = s.station) rfl fun _ _ h1 hu => (h1.station_eq hP).trans hu

theorem Updates.mem_eq (hP : ¬ P .memory) : t.mem = s.mem :=
  h.keep (Q := fun u => u.mem = s.mem) rfl fun _ _ h1 hu => (h1.mem_eq hP).trans hu

theorem Updates.memoryCanonical (hs : MemoryCanonical s) : MemoryCanonical t :=
  h.keep hs fun _ _ h1 => h1.memoryCanonical

theorem Updates.fillsInRange (hs : FillsInRange s) : FillsInRange t := h.keep hs fun _ _ h1 => h1.fillsInRange

theorem Updates.countersInRange (hs : CountersInRange s) : CountersInRange t := h.keep hs fun _ _ h1 => h1.countersInRange

theorem Updates.deliveredSizes (hP : ¬ P .rx) (hs : DeliveredSizes s) : DeliveredSizes t :=
  h.keep hs fun _ _ h1 => h1.deliveredSizes hP

theorem Updates.rosterSound (hs : RosterSound s) : RosterSound t := h.keep hs fun _ _ h1 => h1.rosterSound

theorem Updates.scheduleSound (hs : ScheduleSound s) : ScheduleSound t := h.keep hs fun _ _ h1 => h1.scheduleSound

end

/-! ## Descriptors and queues -/

section
variable (h : Updates P s t)
include h

theorem Updates.setDesc (d : DescId) (x : Desc) (fill : x.fill = (t.desc d).fill ∨ x.fill ≤ Config.bufferSize)
    (sizes : P .rx ∨ x.NotDelivered (t.desc d)) : Updates P s (t.setDesc d x) := h.add (.desc d x fill sizes)

theorem Updates.setQueue (q : QueueId) (l : List DescId) : Updates P s (t.setQueue q l) := h.add (.queue q l)

theorem Updates.setOwner (d : DescId) (o : Owner) : Updates P s (t.setOwner d o) :=
  h.setDesc d _ (.inl rfl) (.inr (.inl ⟨rfl, rfl, rfl⟩))

theorem Updates.setOwners (ds : List DescId) (o : Owner) : Updates P s (t.setOwners ds o) := by
  induction ds generalizing t with
  | nil => exact h
  | cons d ds ih => exact ih (h.setOwner d o)

theorem Updates.pushChain (q : QueueId) (d : DescId) : Updates P s (t.pushChain q d) :=
  ((h.setOwners _ _).setOwner _ _).setQueue _ _

theorem Updates.poolPop {q : QueueId} {d : DescId} {u : State} (hu : t.poolPop q = some (d, u)) : Updates P s u := by
  unfold State.poolPop at hu
  split at hu
  · cases hu
  · next d' rest _ =>
    have htaken := h.setDesc d' { t.desc d' with next := none } (.inl rfl) (.inr (.inl ⟨rfl, rfl, rfl⟩))
    dsimp only at hu
    split at hu
    · cases hu
      exact htaken.setQueue _ _
    · cases hu
      exact (htaken.setOwner _ _).setQueue _ _

theorem Updates.returnToPool (q : QueueId) (d : DescId) : Updates P s (t.returnToPool q d) :=
  (h.setDesc d { t.desc d with fill := 0, next := none, owner := .queued q } (.inr (Nat.zero_le _))
    (.inr (.inl ⟨rfl, rfl, rfl⟩))).setQueue _ _

theorem Updates.returnAll (q : QueueId) (ds : List DescId) : Updates P s (t.returnAll q ds) := by
  induction ds generalizing t with
  | nil => exact h
  | cons d ds ih => exact ih (h.returnToPool q d)

theorem Updates.handBack (d : DescId) (st : DescStatus) (peer : Station) (n : ChanId)
    (hst : st ≠ .received := by decide) : Updates P s (t.handBack d st peer n) :=
  (h.setDesc d { t.desc d with status := st, peer := peer, channel := n } (.inl rfl) (.inr (.inr hst))).pushChain _ _

theorem Updates.handBackOldest (q : QueueId) (st : DescStatus) (peer : Station) (n : ChanId)
    (hst : st ≠ .received := by decide) : Updates P s (t.handBackOldest q st peer n) := by
  unfold State.handBackOldest
  split
  · exact h
  · exact (h.setQueue _ _).handBack _ _ _ _ hst

theorem Updates.flush (q : QueueId) (st : DescStatus) (peer : Station) (n : ChanId) (k : Nat)
    (hst : st ≠ .received := by decide) : Updates P s (t.flush q st peer n k) := by
  induction k generalizing t with
  | zero => exact h
  | succ k ih => exact ih (h.handBackOldest q st peer n hst)

theorem Updates.raise (e : Event) : Updates P s (t.raise e) := h.add (.events _)

theorem Updates.pushMarker (target : QueueId) (peer : Station) (n : ChanId) (total : Nat) :
    Updates P s (t.pushMarker target peer n total) := by
  unfold State.pushMarker
  split
  · exact h.raise _
  · next hu => exact ((h.poolPop hu).setDesc _ _ (.inr (Nat.zero_le _)) (.inr (.inr (by simp [markerRecord])))).setQueue _ _

theorem Updates.answering (st : Status) (rs : List Byte) : Updates P s (t.answering st rs) := h.add (.port _ t.portSkips)

theorem Updates.refuse (st : Status) : Updates P s (t.refuse st) := h.answering st []

theorem Updates.nothingTaken : Updates P s t.nothingTaken := h.add (.port _ _)

theorem Updates.atPort {u : State} (hu : Updates P s u) : Updates P s (t.atPort u) := by
  unfold State.atPort
  split
  · exact h.nothingTaken
  · split
    · exact h.refuse _
    · exact hu

end

theorem saturate_le (limit n : Nat) : saturate limit n ≤ limit := by
  unfold saturate
  split <;> omega

theorem Counters.InRange.raise {c : Counters} (h : c.InRange) (k : Counter) : (c.raise k).InRange := by
  obtain ⟨h1, h2, h3, h4, h5, h6, h7⟩ := h
  have hup : ∀ n, countUp n ≤ Config.counterLimit := saturate_le _
  cases k
  case dataSent => exact ⟨hup _, h2, h3, h4, h5, h6, h7⟩
  case passSent => exact ⟨h1, hup _, h3, h4, h5, h6, h7⟩
  case replySent => exact ⟨h1, h2, hup _, h4, h5, h6, h7⟩
  case invalidHeard => exact ⟨h1, h2, h3, hup _, h5, h6, h7⟩
  case slips => exact ⟨h1, h2, h3, h4, hup _, h6, h7⟩
  case collisions => exact ⟨h1, h2, h3, h4, h5, hup _, h7⟩
  case unanswered => exact ⟨h1, h2, h3, h4, h5, h6, hup _⟩

theorem Updates.count (h : Updates P s t) (c : Counter) : Updates P s (t.count c) :=
  h.add (.counters _ fun hc => hc.raise c)

theorem Updates.setTally (h : Updates P s t) (n : ChanId) (a : Station) (v : Option Tally) :
    Updates P s (t.setTally n a v) := h.add (.tallies _)

theorem Updates.clearTallyRow (h : Updates P s t) (n : ChanId) : Updates P s (t.clearTallyRow n) := h.add (.tallies _)

/-! ## The receive engine -/

section
variable (hP : P .rx) (h : Updates P s t)
include hP h

/-- A receive channel's context replaced by one with the same definition and counters. -/
theorem Updates.setRx (n : ChanId) (c : RxChan) (defn : c.defn = (t.rxc n).defn) (drops : c.drops = (t.rxc n).drops)
    (abandons : c.abandons = (t.rxc n).abandons) : Updates P s (t.setRx n c) :=
  h.add (.rx hP n c defn (.inl drops) (.inl abandons))

omit hP in
theorem Updates.returnPartial (n : ChanId) : Updates P s (t.returnPartial n) := by
  unfold State.returnPartial
  split
  · exact (h.returnToPool _ _).returnAll _ _
  · exact h

theorem Updates.abandonTo (n : ChanId) (st : RxState) : Updates P s (t.abandonTo n st) :=
  Updates.raise ((h.returnPartial n).add
    (Update.rx hP n _ (by rfl) (by exact .inl rfl) (by exact .inr (saturate_le _ _)))) _

theorem Updates.patienceOf (owner : Station) (n : ChanId) : Updates P s (t.patienceOf owner n) := by
  unfold State.patienceOf
  split
  · exact h
  · have hcount := h.setRx hP n { t.rxc n with idle := (t.rxc n).idle + 1 } rfl rfl rfl
    refine .ite (fun _ => .ite (fun _ => h.setRx hP n _ rfl rfl rfl) fun _ => ?_) fun _ => h
    exact .ite (fun _ => hcount.abandonTo hP n .idle) fun _ => hcount

theorem Updates.countPatience (owner : Station) : Updates P s (t.countPatience owner) :=
  h.foldl (fun _ n hu => hu.patienceOf hP owner n) _

theorem Updates.sourceAbsent (a : Station) (n : ChanId) : Updates P s (t.sourceAbsent a n) :=
  .ite (fun _ => (h.setTally n a none).abandonTo hP n .idle) fun _ => h.setTally n a none

theorem Updates.rxAbsent (a : Station) : Updates P s (t.rxAbsent a) :=
  h.foldl (fun _ n hu => hu.sourceAbsent hP a n) _

theorem Updates.chanOffline (n : ChanId) : Updates P s (t.chanOffline n) := by
  have hbusy : Updates P s (t.abandonIfBusy n) := .ite (fun _ => h.abandonTo hP n .idle) fun _ => h
  exact hbusy.setRx hP n _ rfl rfl rfl

theorem Updates.rxOffline : Updates P s t.rxOffline := h.foldl (fun _ n hu => hu.chanOffline hP n) _

theorem Updates.deliver (n : ChanId) (src : Station) : Updates P s (t.deliver n src) := by
  unfold State.deliver
  split
  · next p _ _ =>
    refine ((h.setDesc p.head (deliveredRecord (t.desc p.head) src n (t.rxc n).label p) (.inl rfl)
      (.inl hP)).pushChain
      _ _).setRx hP n _ ?_ ?_ ?_
    all_goals
      rw [pushChain_frame]
      rfl
  · exact h

theorem Updates.dropSegment (n : ChanId) (f : DataFrame) : Updates P s (t.dropSegment n f) :=
  Updates.raise (((h.returnPartial n).setTally n _ _).add
    (Update.rx hP n _ (by rfl) (by exact .inr (saturate_le _ _)) (by exact .inl rfl))) _

theorem Updates.starve (n : ChanId) (policy : Policy) (f : DataFrame) : Updates P s (t.starve n policy f).2 := by
  cases policy
  · exact h
  · exact h.dropSegment hP n f

theorem Updates.discardNext (n : ChanId) (f : DataFrame) : Updates P s (t.discardNext n f) := by
  unfold State.discardNext
  refine (h.setTally n _ _).setRx hP n _ ?_ ?_ ?_ <;> split <;> rfl

theorem Updates.seenAgain (n : ChanId) (f : DataFrame) : Updates P s (t.seenAgain n f) :=
  .ite (fun _ => h.setRx hP n _ rfl rfl rfl) fun _ => h

theorem Updates.violated (n : ChanId) (f : DataFrame) : Updates P s (t.violated n f) :=
  .ite (fun _ => h.abandonTo hP n .idle) fun _ => h

section
variable (hM : P .memory) {f : DataFrame} (hf : f.payload.length ≤ Config.bufferSize)
include hM hf

omit hP in
theorem Updates.storeSegment (n : ChanId) (d : DescId) : Updates P s (t.storeSegment n d f) :=
  (h.add (.memory hM d 0 f.payload (by omega))).setDesc _ _ (.inr hf) (.inr (.inl ⟨rfl, rfl, rfl⟩))

theorem Updates.acceptFirst (n : ChanId) (d : DescId) : Updates P s (t.acceptFirst n d f) := by
  have hstored := ((h.storeSegment hM hf n d).setTally n f.source (some f.tally)).setRx hP n
    { t.rxc n with
      state := .assembling, source := some f.source, label := f.label.getD 0, idle := 0, progress := true,
      part := some { head := d, tail := d, count := 1, length := f.payload.length } } rfl rfl rfl
  exact .ite (fun _ => hstored.deliver hP n _) fun _ => hstored

theorem Updates.acceptNext (n : ChanId) (p : Assembly) (d : DescId) : Updates P s (t.acceptNext n p d f) := by
  have hstored := (((h.storeSegment hM hf n d).setTally n f.source (some f.tally)).setDesc p.tail
    { ((t.storeSegment n d f).recordTally n f).desc p.tail with next := some d } (.inl rfl)
    (.inr (.inl ⟨rfl, rfl, rfl⟩))).setRx hP n
    { t.rxc n with
      idle := 0, progress := true,
      part := some { head := p.head, tail := d, count := p.count + 1, length := p.length + f.payload.length } } rfl rfl rfl
  exact .ite (fun _ => hstored.deliver hP n _) fun _ => hstored

theorem Updates.decideFirst (n : ChanId) (df : RxDef) : Updates P s (t.decideFirst n df f).2 := by
  unfold State.decideFirst
  split
  · exact h.starve hP n _ f
  · next hu => exact (h.poolPop hu).acceptFirst hP hM hf n _

theorem Updates.decideNext (n : ChanId) (df : RxDef) (p : Assembly) : Updates P s (t.decideNext n df p f).2 := by
  unfold State.decideNext
  split
  · exact h.starve hP n _ f
  · next hu => exact (h.poolPop hu).acceptNext hP hM hf n p _

theorem Updates.replyDecision (n : ChanId) : Updates P s (t.replyDecision n f).2 := by
  unfold State.replyDecision
  dsimp only
  split
  · exact h
  · next df _ =>
    split_ifs
    · exact h
    · exact h.seenAgain hP n f
    · exact h.violated hP n f
    · exact h
    · exact (h.abandonTo hP n .idle).decideFirst hP hM hf n df
    · exact h.decideFirst hP hM hf n df
    · split
      · exact h.decideNext hP hM hf n df _
      · exact h
    · exact h.discardNext hP n f
    · exact h

end

theorem Updates.completeRxTeardown (n : ChanId) : Updates P s (t.completeRxTeardown n) := by
  unfold State.completeRxTeardown
  split
  · exact h
  · exact (((h.returnPartial n).pushMarker _ _ _ _).clearTallyRow n).setRx hP n _ rfl rfl rfl

end

/-! ## The transmit engine -/

theorem entryAfter_lt {len : Nat} (e : Nat) (hlen : 1 ≤ len) : entryAfter len e < len := by
  unfold entryAfter
  split <;> omega

section
variable (hP : P .tx) (h : Updates P s t)
include hP h

theorem Updates.setTx (n : ChanId) (c : TxChan) (defn : c.defn = (t.txc n).defn) : Updates P s (t.setTx n c) :=
  h.add (.tx hP n c defn)

theorem Updates.endMessage (n : ChanId) (st : DescStatus) (hst : st ≠ .received := by decide) :
    Updates P s (t.endMessage n st) := by
  unfold State.endMessage
  split
  · refine (h.handBack _ _ _ _ hst).setTx hP n _ ?_
    rw [handBack_frame]
    rfl
  · exact h

theorem Updates.advanceTally (n : ChanId) : Updates P s (t.advanceTally n) := h.setTx hP n _ rfl

theorem Updates.failMessage (n : ChanId) (st : DescStatus) (hst : st ≠ .received := by decide) :
    Updates P s (t.failMessage n st) :=
  .ite (fun _ => (h.advanceTally hP n).endMessage hP n st hst) fun _ => h.endMessage hP n st hst

theorem Updates.outcomeEffect (n : ChanId) (o : Option ReplyCode) : Updates P s (t.outcomeEffect n o) := by
  have htaken : Updates P s (t.outcomeTaken n) :=
    .ite (fun _ => (h.advanceTally hP n).endMessage hP n _) fun _ => h.setTx hP n _ rfl
  match o with
  | some .taken => exact htaken
  | some .seen => exact htaken
  | some .later =>
    have hlater := h.setTx hP n { t.txc n with laters := (t.txc n).laters + 1, attempts := 0 } rfl
    exact .ite (fun _ => hlater.failMessage hP n _) fun _ => hlater
  | some .closed => exact h.failMessage hP n _
  | some .lost => exact h.failMessage hP n _
  | none =>
    have hdoubt := (h.count .unanswered).setTx hP n { t.txc n with doubt := true } rfl
    exact .ite (fun _ => hdoubt.failMessage hP n _) fun _ => hdoubt

theorem Updates.applyOutcome (n : ChanId) (o : Option ReplyCode) : Updates P s (t.applyOutcome n o) :=
  (h.outcomeEffect hP n o).setTx hP n _ rfl

theorem Updates.completeTeardown (n : ChanId) : Updates P s (t.completeTeardown n) := by
  unfold State.completeTeardown
  split
  · exact h
  · exact (((h.failMessage hP n _).flush _ _ _ _ _).pushMarker _ _ _ _).setTx hP n _ rfl

theorem Updates.finishTearing (n : ChanId) : Updates P s (t.finishTearing n) :=
  .ite (fun _ => h.completeTeardown hP n) fun _ => h

theorem Updates.ownTurnEnds (answer : Option Frame) : Updates P s (t.ownTurnEnds answer) := by
  unfold State.ownTurnEnds
  split
  · exact h
  · exact (h.applyOutcome hP _ _).finishTearing hP _

theorem Updates.absenceTreatment (a : Station) (n : ChanId) : Updates P s (t.absenceTreatment a n) := by
  unfold State.absenceTreatment
  split
  · exact h
  · exact .ite (fun _ => .ite (fun _ => h.failMessage hP n _) fun _ => .ite (fun _ => h.setTx hP n _ rfl) fun _ => h)
      fun _ => h

theorem Updates.txAbsent (a : Station) : Updates P s (t.txAbsent a) :=
  h.foldl (fun _ n hu => hu.absenceTreatment hP a n) _

theorem Updates.txReturned (a : Station) : Updates P s (t.txReturned a) := by
  refine h.foldl (fun u n hu => ?_) _
  dsimp only
  split
  · exact .ite (fun _ => hu.setTx hP n _ rfl) fun _ => hu
  · exact hu

theorem Updates.interruptChan (n : ChanId) : Updates P s (t.interruptChan n) := by
  unfold State.interruptChan
  split
  · exact h
  · have hcount := h.setTx hP n { t.txc n with absence := 0 } rfl
    dsimp only
    generalize t.setTx n { t.txc n with absence := 0 } = u at hcount
    have hended : Updates P s (if (u.txc n).doubt then u.failMessage n .noAnswer else u.setTx n (u.txc n).rewound) :=
      .ite (fun _ => hcount.failMessage hP n _) fun _ => hcount.setTx hP n _ rfl
    exact .ite (fun _ => hended.setTx hP n _ rfl) fun _ => hcount

theorem Updates.interrupt : Updates P s t.interrupt := h.foldl (fun _ n hu => hu.interruptChan hP n) _

theorem Updates.absenceExpires (n : ChanId) (df : TxDef) : Updates P s (t.absenceExpires n df) :=
  Updates.setTx hP (t := if (t.txc n).msg.isSome then t.failMessage n .absent
    else t.handBackOldest df.submit .absent df.station n)
    (.ite (fun _ => h.failMessage hP n _) fun _ => h.handBackOldest _ _ _ _) n _ rfl

theorem Updates.advanceAbsence (n : ChanId) : Updates P s (t.advanceAbsence n) := by
  unfold State.advanceAbsence
  split
  · exact h
  · have hcount := h.setTx hP n { t.txc n with absence := (t.txc n).absence + 1 } rfl
    exact .ite (fun _ => .ite (fun _ => hcount.absenceExpires hP n _) fun _ => hcount) fun _ => h

theorem Updates.take (n : ChanId) : Updates P s (t.take n) := by
  unfold State.take
  split
  · exact h
  · split
    · exact h
    · exact .ite (fun _ => ((h.setQueue _ _).setOwners _ _).setTx hP n _ rfl)
        fun _ => (h.handBackOldest _ _ _ _).raise _

theorem Updates.requestData (hR : P .request) (n : ChanId) : Updates P s (t.requestData n) := by
  unfold State.requestData
  split
  · exact h
  · exact (h.setTx hP n { t.txc n with outstanding := true, attempts := (t.txc n).attempts + 1 } rfl).add
      (.request hR _)

omit hP in
theorem Updates.requestPass (hR : P .request) : Updates P s t.requestPass := h.add (.request hR _)

end

end Sys2Proof.Machine
end

section
/-! PROOFS. What the turn controller and the scan are made of: a property kept by the single treatments of one channel, by
the changes of the line, the station, the roster, the cursor and the request, is kept by every turn end, frame end, own turn
start, exit from ONLINE and claim (chapters 3 to 5). Single updates are one such property. -/

namespace Sys2Proof.Machine

open Sys2Proof.Safety

/-! ## The treatments that turns are made of -/

/-- The property is kept by each treatment of the engines, the roster and the schedule that turns are made of. -/
structure EnginesKept (Q : State → Prop) : Prop where
  count {s : State} (c : Counter) : Q s → Q (s.count c)
  raise {s : State} (e : Event) : Q s → Q (s.raise e)
  tallies {s : State} (v : Table 8 (Table 16 (Option Tally))) : Q s → Q { s with tallies := v }
  port {s : State} (answer : List Byte) (skips : Bool) : Q s → Q { s with answer := answer, portSkips := skips }
  request {s : State} (r : Option Frame) : Q s → Q { s with request := r }
  roster {s : State} (r : Table 16 RosterEntry) (sound : RosterSound s → RosterSound { s with roster := r }) :
    Q s → Q { s with roster := r }
  cursor {s : State} (k : Nat) (active : 1 ≤ s.cfg.length → k < s.cfg.length)
    (fixed : s.station = .starting ∨ s.station = .unconfigured → k = 0) : Q s → Q { s with cursor := k }
  patienceOf {s : State} (a : Station) (n : ChanId) : Q s → Q (s.patienceOf a n)
  sourceAbsent {s : State} (a : Station) (n : ChanId) : Q s → Q (s.sourceAbsent a n)
  chanOffline {s : State} (n : ChanId) : Q s → Q (s.chanOffline n)
  answered {s : State} (n : ChanId) (o : Option ReplyCode) (out : (s.txc n).outstanding = true) :
    Q s → Q ((s.applyOutcome n o).finishTearing n)
  absenceTreatment {s : State} (a : Station) (n : ChanId) : Q s → Q (s.absenceTreatment a n)
  absence {s : State} (n : ChanId) : Q s → Q (s.setTx n { s.txc n with absence := 0 })
  interruptChan {s : State} (n : ChanId) : Q s → Q (s.interruptChan n)
  advanceAbsence {s : State} (n : ChanId) : Q s → Q (s.advanceAbsence n)
  take {s : State} (n : ChanId) (idle : (s.txc n).state = .idle) : Q s → Q (s.take n)

/-- The property is kept also by the changes of the line and of the station's state. -/
structure StationKept (Q : State → Prop) : Prop extends EnginesKept Q where
  line {s : State} (turn : TurnControl) (line : Line) (since : Nat) (low : Bool) :
    Q s → Q { s with turn := turn, line := line, sinceLow := since, rxdLow := low }
  station {s : State} {st : StationState} (fixed : st ≠ .starting ∧ st ≠ .unconfigured) : Q s → Q { s with station := st }

/-- The property is kept also by the request of a segment. -/
structure Kept (Q : State → Prop) : Prop extends StationKept Q where
  sent {s : State} (n : ChanId) :
    Q s → Q (s.setTx n { s.txc n with outstanding := true, attempts := (s.txc n).attempts + 1 })

theorem ite_keeps {α : Type} {Q : α → Prop} {c : Prop} [Decidable c] {u v : α} (h1 : c → Q u) (h2 : ¬ c → Q v) :
    Q (if c then u else v) := by
  split
  · exact h1 ‹_›
  · exact h2 ‹_›

/-- A treatment of every channel keeps what it keeps at each. -/
theorem foldl_keeps {Q : State → Prop} {f : State → ChanId → State} (hf : ∀ u n, Q u → Q (f u n)) (l : List ChanId)
    {s : State} (h : Q s) : Q (l.foldl f s) := by
  induction l generalizing s with
  | nil => exact h
  | cons n l ih => exact ih (hf s n h)

/-- A roster entry's misses are in range, and it is ABSENT exactly at their limit (R79, R81). -/
def RosterEntry.Sound (e : RosterEntry) : Prop :=
  e.misses ≤ Config.missLimit ∧ (e.state = .absent ↔ e.misses = Config.missLimit)

theorem rosterSound_setRoster {s : State} (hs : RosterSound s) {a : Station} (hown : a ≠ s.ownAddr) {e : RosterEntry}
    (he : e.Sound) : RosterSound (s.setRoster a e) := by
  obtain ⟨hall, hself⟩ := hs
  refine ⟨fun b => ?_, ?_⟩
  · rw [State.rosterOf_setRoster]
    split
    · exact he
    · exact hall b
  · change (s.setRoster a e).rosterOf s.ownAddr = _
    rw [State.rosterOf_setRoster, if_neg hown]
    exact hself

theorem State.eligible_idle {s : State} {n : ChanId} (h : s.eligible n = true) (hactive : (s.txc n).state ≠ .active) :
    (s.txc n).state = .idle := by
  unfold State.eligible at h
  split at h
  · cases h
  · simp only [Bool.and_eq_true, Bool.or_eq_true, beq_iff_eq] at h
    exact (h.2.resolve_left hactive).1

theorem take_station (s : State) (n : ChanId) : (s.take n).station = s.station :=
  ((Updates.refl (P := (· = Part.tx)) s).take (by rfl) n).station_eq (by decide)

theorem advanceAbsences_station (s : State) : (allChans.foldl State.advanceAbsence s).station = s.station :=
  ((Updates.refl (P := (· = Part.tx)) s).foldl (fun _ n hu => hu.advanceAbsence (by rfl) n) _).station_eq (by decide)

namespace EnginesKept

variable {Q : State → Prop} (hQ : EnginesKept Q) {s : State} (h : Q s)
include hQ h

/-! ## Engines -/

theorem setRoster {a : Station} (hown : a ≠ s.ownAddr) {e : RosterEntry} (he : e.Sound) : Q (s.setRoster a e) :=
  hQ.roster _ (fun hs => rosterSound_setRoster hs hown he) h

theorem countPatience (a : Station) : Q (s.countPatience a) := foldl_keeps (fun _ n hu => hQ.patienceOf a n hu) _ h

theorem rxAbsent (a : Station) : Q (s.rxAbsent a) := foldl_keeps (fun _ n hu => hQ.sourceAbsent a n hu) _ h

theorem rxOffline : Q s.rxOffline := foldl_keeps (fun _ n hu => hQ.chanOffline n hu) _ h

theorem txAbsent (a : Station) : Q (s.txAbsent a) := foldl_keeps (fun _ n hu => hQ.absenceTreatment a n hu) _ h

theorem interrupt : Q s.interrupt := foldl_keeps (fun _ n hu => hQ.interruptChan n hu) _ h

theorem txReturned (a : Station) : Q (s.txReturned a) := by
  refine foldl_keeps (fun u n hu => ?_) _ h
  dsimp only
  split
  · exact ite_keeps (fun _ => hQ.absence n hu) fun _ => hu
  · exact hu

theorem ownTurnEnds (answer : Option Frame) : Q (s.ownTurnEnds answer) := by
  unfold State.ownTurnEnds
  split
  · exact h
  · next n hn => exact hQ.answered _ _ (by simpa using List.find?_some hn) h

/-- The scan moves the cursor only in a station past FIX. -/
theorem scan (hst : s.station ≠ .starting ∧ s.station ≠ .unconfigured) (k e : Nat) : Q (s.scan k e).1 := by
  induction k generalizing s e with
  | zero => exact h
  | succ k ih =>
    unfold State.scan
    split
    · exact ih h hst _
    · next n _ =>
      split
      · next heligible =>
        have htake : Q (if (s.txc n).state = .active then s else s.take n) :=
          ite_keeps (fun _ => h) fun hactive => hQ.take n (State.eligible_idle heligible hactive) h
        have hstation : (if (s.txc n).state = .active then s else s.take n).station = s.station := by
          split
          · rfl
          · exact take_station s n
        dsimp only
        generalize (if (s.txc n).state = .active then s else s.take n) = u at htake hstation
        rw [← hstation] at hst
        split
        · exact hQ.cursor _ (fun hlen => entryAfter_lt e hlen) (fun hu => absurd hu (not_or.mpr hst)) htake
        · exact ih htake hst _
      · exact ih h hst _

omit h in
theorem requestChosen (hsent : ∀ {u : State} (n : ChanId),
      Q u → Q (u.setTx n { u.txc n with outstanding := true, attempts := (u.txc n).attempts + 1 }))
    {r : State × Option ChanId} (h : Q r.1) : Q (State.requestChosen r) := by
  unfold State.requestChosen
  split
  · unfold State.requestData
    split
    · exact h
    · exact hQ.request _ (hsent _ h)
  · exact hQ.request _ h

theorem ownTurnStarts (hsent : ∀ {u : State} (n : ChanId),
      Q u → Q (u.setTx n { u.txc n with outstanding := true, attempts := (u.txc n).attempts + 1 }))
    (hst : s.station ≠ .starting ∧ s.station ≠ .unconfigured) : Q s.ownTurnStarts := by
  have hcount : Q (allChans.foldl State.advanceAbsence s) := foldl_keeps (fun _ n hu => hQ.advanceAbsence n hu) _ h
  rw [← advanceAbsences_station s] at hst
  unfold State.ownTurnStarts
  exact hQ.requestChosen hsent (hQ.scan hcount hst _ _)

/-! ## The roster -/

theorem heardFrom (a : Station) : Q (s.heardFrom a) := by
  refine ite_keeps (fun _ => h) fun hown => ?_
  have hset := hQ.setRoster h hown (e := { state := .present, misses := 0 }) (by simp [RosterEntry.Sound, Config.missLimit])
  exact ite_keeps (fun _ => hQ.txReturned hset a) fun _ => hset

theorem hearSource (v : Option Frame) : Q (s.hearSource v) := by
  cases v with
  | none => exact h
  | some f => exact hQ.heardFrom h f.source

/-- Below two misses the station is not ABSENT, at two it is (R81). -/
theorem missTurn (a : Station) : Q (s.missTurn a) := by
  refine ite_keeps (fun _ => h) fun hnot => ?_
  obtain ⟨hown, habsent⟩ := not_or.mp hnot
  refine ite_keeps (fun _ => ?_) fun hbelow => ?_
  · have hset := hQ.setRoster h hown (e := { state := .absent, misses := Config.missLimit }) (by simp [RosterEntry.Sound])
    exact hQ.rxAbsent (hQ.txAbsent hset a) a
  · have hpresent : (s.rosterOf a).state ≠ .absent := by simpa [State.isAbsent] using habsent
    have hmisses : (s.rosterOf a).misses + 1 < Config.missLimit := by omega
    exact hQ.setRoster h hown ⟨hmisses.le, fun he => absurd he hpresent, fun he => absurd he hmisses.ne⟩

theorem tellTransmit (owner : Station) (answer : Option Frame) : Q (s.tellTransmit owner answer) :=
  ite_keeps (fun _ => hQ.ownTurnEnds h answer) fun _ => h

theorem heardData {f : DataFrame} (hf : ∀ u, Q u → Q (u.replyDecision f.channel f).2) : Q (s.heardData f) :=
  ite_keeps (fun _ => hQ.request _ (hf _ h)) fun _ => h

end EnginesKept

namespace StationKept

variable {Q : State → Prop} (hQ : StationKept Q) {s : State} (h : Q s)
include hQ h

/-! ## The turn controller -/

theorem withTurn (turn : TurnControl) : Q { s with turn := turn } := hQ.line turn s.line s.sinceLow s.rxdLow h

theorem withTimer (m : Timer) : Q (s.withTimer m) := hQ.withTurn h _

theorem lowNow : Q s.lowNow := hQ.line s.turn s.line 0 s.rxdLow h

theorem markOwnTurn : Q s.markOwnTurn := ite_keeps (fun _ => hQ.withTurn h _) fun _ => h

theorem slipTo (a : Station) : Q (s.slipTo a) := hQ.raise _ (hQ.count _ (hQ.withTurn h _))

theorem turnPasses : Q s.turnPasses := hQ.countPatience (hQ.withTurn h _) _

theorem goOffline : Q s.goOffline := by
  have hstop := hQ.line { s.turn with timer := .stopped, quiet := 0, ownTurn := false } .quiet
    (if s.line = .quiet then s.sinceLow else 0) s.rxdLow (hQ.request none (hQ.station (st := .offline) (by decide) h))
  unfold State.goOffline
  refine hQ.rxOffline (ite_keeps (fun _ => ?_) fun _ => ?_)
  · exact hQ.interrupt hstop
  · exact hstop

theorem goResync : Q s.goResync :=
  hQ.interrupt (hQ.line { s.turn with flavour := .resync, timer := .stopped, quiet := 0, ownTurn := false }
    (.skipping { began := .other, counted := false, remainder := true }) s.sinceLow s.rxdLow
    (hQ.station (st := .listening) (by decide) h))

theorem collide (f : Frame) : Q (s.collide f) := by
  have hcount := hQ.lowNow (hQ.count .collisions (hQ.withTurn h { s.turn with collided := s.turn.collided + 1 }))
  unfold State.collide
  generalize (({ s with turn := { s.turn with collided := s.turn.collided + 1 } } : State).count
    .collisions).lowNow = u at hcount
  have hended : Q (match f with | .data _ => u.ownTurnEnds none | _ => u) := by
    cases f with
    | data g => exact hQ.ownTurnEnds hcount none
    | _ => exact hcount
  exact ite_keeps (fun _ => hQ.raise _ (hQ.goOffline hended)) fun _ => ite_keeps (fun _ => hQ.goOffline hended) fun _ =>
    hQ.goResync hended

theorem endTurn (way : TurnWay) : Q (s.endTurn way) := by
  have hends := hQ.tellTransmit (hQ.turnPasses h) s.turn.counter way.answer
  exact ite_keeps (fun _ => hQ.missTurn hends _) fun _ => hends

theorem leaveAfter (owner : Station) : Q (s.leaveAfter owner) := ite_keeps (fun _ => hQ.goOffline h) fun _ => h

theorem claim : Q s.claim :=
  hQ.request _ (hQ.withTurn (hQ.station (st := .online) (by decide) h) _)

theorem joinLine : Q s.joinLine := by
  have hroster := hQ.roster (filled 16 RosterEntry.reset)
    (fun _ => ⟨fun a => by simp [State.rosterOf, RosterEntry.reset, Config.missLimit], by simp [State.rosterOf]⟩)
    (hQ.tallies (filled 8 (filled 16 none)) h)
  exact hQ.line _ _ s.sinceLow false (hQ.station (st := .listening) (by decide) hroster)

end StationKept

namespace Kept

variable {Q : State → Prop} (hQ : Kept Q) {s : State} (h : Q s)
include hQ h

theorem startOwnTurn : Q s.startOwnTurn := by
  have hmark := hQ.markOwnTurn h
  refine ite_keeps (fun hown => ?_) fun _ => hmark
  have honline : s.station = .online := by
    have := hown.1
    simp only [State.atOwnTurn, Bool.and_eq_true, beq_iff_eq] at this
    exact this.1
  have hstation : s.markOwnTurn.station = .online := by
    rw [State.markOwnTurn, if_pos hown.1]
    exact honline
  exact hQ.ownTurnStarts hmark hQ.sent (by rw [hstation]; decide)

theorem turnEnd (way : TurnWay) : Q (s.turnEnd way) := hQ.leaveAfter (hQ.startOwnTurn (hQ.endTurn h way)) _

/-! ## Frames heard and sent -/

theorem openTurn (f : Frame) : Q (s.openTurn f) := by
  unfold State.openTurn
  split
  · exact hQ.turnEnd h _
  · exact hQ.withTimer h _

theorem holdTurn (inWindow : Bool) (f : Frame) : Q (s.holdTurn inWindow f) :=
  hQ.openTurn (ite_keeps (c := f.source ≠ s.turn.counter ∨ inWindow) (fun _ => hQ.slipTo h _) fun _ => h) f

theorem frameInWindow (v : Option Frame) : Q (s.frameInWindow v) := by
  refine hQ.leaveAfter ?_ _
  cases turnHolder v with
  | some f => exact hQ.holdTurn (hQ.hearSource (hQ.markOwnTurn (hQ.endTurn h _)) v) true f
  | none => exact hQ.tellTransmit (hQ.hearSource (hQ.startOwnTurn (hQ.turnPasses h)) v) _ v

theorem frameInGap (began : Began) (v : Option Frame) : Q (s.frameInGap began v) := by
  have hhear := hQ.hearSource h v
  unfold State.frameInGap
  cases turnHolder v with
  | some f => exact hQ.holdTurn hhear false f
  | none => exact ite_keeps (fun _ => hQ.withTimer hhear _) fun _ => hhear

theorem adopt (f : Frame) : Q (s.adopt f) :=
  hQ.openTurn (hQ.heardFrom (hQ.withTurn (hQ.station (st := .online) (by decide) h) _) f.source) f

theorem frameToTurns (began : Began) (v : Option Frame) : Q (s.frameToTurns began v) := by
  have hturn : Q (s.frameInTurn began v) :=
    ite_keeps (fun _ => hQ.frameInWindow h v) fun _ => hQ.frameInGap h began v
  unfold State.frameToTurns
  split
  · cases turnHolder v with
    | some f => exact hQ.adopt h f
    | none => exact hQ.withTimer h _
  · exact hturn
  · exact hturn
  · exact h

/-- A frame end reaches the receive engine with a DATA frame only. -/
theorem frameEnds (hh : Heard) (v : Option Frame)
    (hv : ∀ f, v = some (.data f) → ∀ u, Q u → Q (u.replyDecision f.channel f).2) : Q (s.frameEnds hh v) := by
  have hquiet : Q { s with line := .quiet } := hQ.line s.turn .quiet s.sinceLow s.rxdLow h
  have hturn := hQ.frameToTurns (ite_keeps (c := v = none ∧ hh.counted) (fun _ => hQ.count .invalidHeard hquiet)
    fun _ => hquiet) hh.began v
  match v, hv with
  | none, _ => exact hturn
  | some (.pass _), _ => exact hturn
  | some (.reply _), _ => exact hturn
  | some (.data f), hv => exact hQ.heardData hturn (hv f rfl)

theorem ownFrameEnds (f : Frame) : Q (s.ownFrameEnds f) := by
  have hquiet := hQ.count (sentCounter f) (hQ.line { s.turn with collided := 0 } .quiet s.sinceLow s.rxdLow h)
  cases f with
  | pass a => exact hQ.turnEnd hquiet _
  | data g => exact hQ.withTimer hquiet _
  | reply r => exact hQ.turnEnd hquiet _

end Kept

/-! ## The payload of a received DATA frame -/

theorem readFields_data {l : List Byte} {f : DataFrame} (h : readFields l = some (.data f)) :
    ∃ s d c t x rest, l = dataKind :: s :: d :: c :: t :: x :: rest
      ∧ rest.length = f.payload.length + if firstOf t then 1 else 0 := by
  unfold readFields at h
  split at h
  · split at h <;> cases h
  · next k s d c t x rest =>
    split at h
    · next hk =>
      refine ⟨s, d, c, t, x, rest, by rw [hk], ?_⟩
      split at h
      · next hfirst =>
        split at h
        · cases h; simp [hfirst]
        · cases h
      · next hfirst => cases h; simp [hfirst]
    · split at h
      · cases hcode : replyCodeOf x <;> simp [hcode] at h
      · cases h
  · cases h

/-- A DATA frame read from received bytes carries at most 64 payload bytes (R44, R47). -/
theorem payload_length_le {bytes : List Byte} {f : DataFrame} (h : decodeFrame bytes = some (.data f)) :
    f.payload.length ≤ Config.bufferSize := by
  unfold decodeFrame at h
  split at h
  · next hok =>
    obtain ⟨hcomplete, -⟩ := Bool.and_eq_true_iff.mp hok
    obtain ⟨s, d, c, t, x, rest, hl, hrest⟩ := readFields_data h
    have hcount : expectedCount bytes = some bytes.length := by simpa [frameComplete] using hcomplete
    have hlen := congrArg List.length hl
    obtain ⟨more, hbytes⟩ : ∃ more, bytes = dataKind :: s :: d :: c :: t :: x :: more := by
      refine ⟨rest ++ bytes.drop (bytes.length - 2), ?_⟩
      have := List.take_append_drop (bytes.length - 2) bytes
      rw [beforeCrc] at hl
      rw [hl] at this
      simpa using this.symm
    simp only [beforeCrc, List.length_take, List.length_cons] at hlen
    rw [hbytes] at hcount
    simp only [expectedCount, show dataKind ≠ passKind by decide, show dataKind ≠ replyKind by decide, if_false,
      if_true] at hcount
    split at hcount
    · next hx =>
      rw [← hbytes, Option.some.injEq] at hcount
      split at hrest <;> simp_all <;> omega
    · cases hcount
  · cases h

theorem verdict_data {began : Began} {bytes : List Byte} {f : DataFrame} (h : verdict began bytes = some (.data f)) :
    decodeFrame bytes = some (.data f) := by
  unfold verdict at h
  split at h
  · split at h <;> cases h
  · exact h

/-! ## Every event of the line -/

/-- The commands that move the station, its line or its turns: JOIN, LEAVE, the events of the line and the limits of the
turns and of the transmit engine that arise inside them. -/
def movesTurns : Instr → Bool
  | .join | .leave | .frameStart | .frameEnd _ | .idleFrameEnd | .ownFrameStart | .ownFrameEnd | .collision
  | .responseWindowExpiry | .turnGapExpiry | .listenExpiry | .claimExpiry | .absenceCountLimit _ | .attemptsLimit _
  | .latersLimit _ | .fault | .rosterAbsent _ | .entryToSkipping _ | .rxdLowWhileHeld _ => true
  | _ => false

theorem State.attemptsDue_outstanding {s : State} {n : ChanId} (h : s.attemptsDue n = true) :
    (s.txc n).outstanding = true := (Bool.and_eq_true_iff.mp (Bool.and_eq_true_iff.mp h).1).1

theorem State.latersDue_outstanding {s : State} {n : ChanId} (h : s.latersDue n = true) :
    (s.txc n).outstanding = true := (Bool.and_eq_true_iff.mp (Bool.and_eq_true_iff.mp h).1).1

/-- What the treatments of turns keep, and the reply decision on a received DATA frame, every such command keeps. -/
theorem Kept.exec {Q : State → Prop} (hQ : Kept Q) {c : Instr} (hc : movesTurns c = true)
    (hdata : ∀ bytes, c = .frameEnd bytes → ∀ f : DataFrame, f.payload.length ≤ Config.bufferSize →
      ∀ u, Q u → Q (u.replyDecision f.channel f).2) {s t : State} (h : Q s) (hexec : exec c s = .next t) : Q t := by
  have hanswer : ∀ {u : State} (st : Status) (rs : List Byte), Q u → Q (u.answering st rs) := fun st rs hu =>
    hQ.port _ _ hu
  have hport : ∀ {u : State}, Q u → Q (s.atPort u) := fun hu =>
    ite_keeps (fun _ => hQ.port _ _ h) fun _ => ite_keeps (fun _ => hanswer _ _ h) fun _ => hu
  cases c with
  | join =>
    obtain rfl := Host.Outcome.next.inj hexec
    exact hport (ite_keeps (fun _ => hanswer _ _ (hQ.joinLine h)) fun _ => hanswer _ _ h)
  | leave =>
    obtain rfl := Host.Outcome.next.inj hexec
    refine hport ?_
    split
    · exact hanswer _ _ (hQ.goOffline h)
    · split
      · exact hanswer _ _ (hQ.station (by decide) h)
      · exact hanswer _ _ (hQ.goOffline h)
    · exact hanswer _ _ h
  | frameStart =>
    obtain rfl := Host.Outcome.next.inj hexec
    exact ite_keeps (fun _ => hQ.line (s := s) { s.turn with timer := .stopped } _ 0 s.rxdLow h) fun _ => h
  | frameEnd bytes =>
    obtain rfl := Host.Outcome.next.inj hexec
    split
    · refine ite_keeps (fun _ => ?_) fun _ => h
      exact hQ.frameEnds (hQ.line s.turn s.line (trailingHigh (bytes.getLastD 0) * s.bitTime) s.rxdLow h)
        _ _ fun f hf => hdata bytes rfl f (payload_length_le (verdict_data hf))
    · exact h
  | idleFrameEnd =>
    obtain rfl := Host.Outcome.next.inj hexec
    have hidle := fun hh => hQ.frameEnds (hQ.line s.turn s.line (Config.idleLimit * s.bitTime + 1) s.rxdLow h) hh none nofun
    refine ite_keeps (fun _ => ?_) fun _ => h
    split
    · exact hidle _
    · exact hidle _
    · exact h
  | ownFrameStart =>
    obtain rfl := Host.Outcome.next.inj hexec
    split
    · exact hQ.request none (hQ.line { s.turn with timer := .stopped } (.sending _) 0 s.rxdLow h)
    · exact h
  | ownFrameEnd =>
    obtain rfl := Host.Outcome.next.inj hexec
    split
    · exact hQ.ownFrameEnds (hQ.line s.turn s.line _ s.rxdLow h) _
    · exact h
  | collision =>
    obtain rfl := Host.Outcome.next.inj hexec
    split
    · exact hQ.collide h _
    · exact h
  | responseWindowExpiry =>
    obtain rfl := Host.Outcome.next.inj hexec
    exact ite_keeps (fun _ => hQ.turnEnd h _) fun _ => h
  | turnGapExpiry =>
    obtain rfl := Host.Outcome.next.inj hexec
    exact ite_keeps (fun _ => hQ.turnEnd h _) fun _ => h
  | listenExpiry =>
    obtain rfl := Host.Outcome.next.inj hexec
    exact ite_keeps (fun _ => hQ.withTimer h _) fun _ => h
  | claimExpiry =>
    obtain rfl := Host.Outcome.next.inj hexec
    exact ite_keeps (fun _ => hQ.claim h) fun _ => h
  | absenceCountLimit n =>
    obtain rfl := Host.Outcome.next.inj hexec
    exact ite_keeps (fun _ => hQ.advanceAbsence n h) fun _ => h
  | attemptsLimit n =>
    obtain rfl := Host.Outcome.next.inj hexec
    exact ite_keeps (fun hdue => hQ.answered n none (State.attemptsDue_outstanding hdue) h) fun _ => h
  | latersLimit n =>
    obtain rfl := Host.Outcome.next.inj hexec
    exact ite_keeps (fun hdue => hQ.answered n (some .later) (State.latersDue_outstanding hdue) h) fun _ => h
  | fault =>
    obtain rfl := Host.Outcome.next.inj hexec
    split
    · exact ite_keeps (fun _ => hQ.collide h _) fun _ => h
    · exact h
  | rosterAbsent a =>
    obtain rfl := Host.Outcome.next.inj hexec
    exact ite_keeps (fun _ => hQ.missTurn h a) fun _ => h
  | entryToSkipping cause =>
    obtain rfl := Host.Outcome.next.inj hexec
    split
    · exact ite_keeps (fun _ => hQ.line (s := s) s.turn _ 0 s.rxdLow h) fun _ => h
    · exact h
  | rxdLowWhileHeld stays =>
    obtain rfl := Host.Outcome.next.inj hexec
    exact ite_keeps (fun _ => h) fun _ => hQ.line (s := s) s.turn s.line 0 stays h
  | _ => cases hc

/-! ## Single updates as such a property -/

/-- What the turn controller and the line may touch: everything but packet memory. -/
def NoMemory (P : Part → Prop) : Prop := ∀ p, p ≠ .memory → P p

theorem Updates.enginesKept {P : Part → Prop} (hP : ∀ p, p ≠ .memory → p ≠ .line → p ≠ .station → P p) (s : State) :
    EnginesKept (Updates P s) where
  count c h := h.count c
  raise e h := h.raise e
  tallies v h := h.add (.tallies v)
  port answer skips h := h.add (.port answer skips)
  request r h := h.add (.request (hP .request (by decide) (by decide) (by decide)) r)
  roster r sound h := h.add (.roster (hP .roster (by decide) (by decide) (by decide)) r sound)
  cursor k active fixed h := h.add (.cursor (hP .cursor (by decide) (by decide) (by decide)) k active fixed)
  patienceOf a n h := h.patienceOf (hP .rx (by decide) (by decide) (by decide)) a n
  sourceAbsent a n h := h.sourceAbsent (hP .rx (by decide) (by decide) (by decide)) a n
  chanOffline n h := h.chanOffline (hP .rx (by decide) (by decide) (by decide)) n
  answered n o _ h := (h.applyOutcome (hP .tx (by decide) (by decide) (by decide)) n o).finishTearing (hP .tx (by decide) (by decide) (by decide)) n
  absenceTreatment a n h := h.absenceTreatment (hP .tx (by decide) (by decide) (by decide)) a n
  absence n h := h.setTx (hP .tx (by decide) (by decide) (by decide)) n _ rfl
  interruptChan n h := h.interruptChan (hP .tx (by decide) (by decide) (by decide)) n
  advanceAbsence n h := h.advanceAbsence (hP .tx (by decide) (by decide) (by decide)) n
  take n _ h := h.take (hP .tx (by decide) (by decide) (by decide)) n

theorem Updates.kept {P : Part → Prop} (hP : NoMemory P) (s : State) : Kept (Updates P s) where
  toEnginesKept := Updates.enginesKept (fun p hp _ _ => hP p hp) s
  line turn line since low h := h.add (.line (hP .line (by decide)) turn line since low)
  station fixed h := h.add (.station (hP .station (by decide)) _ fixed)
  sent n h := h.setTx (hP .tx (by decide)) n _ rfl

end Sys2Proof.Machine
end

section
/-! PROOFS. The updates that each command is made of, and the parts of the state it may touch. -/

namespace Sys2Proof.Machine

open Sys2Proof.Safety

/-! ## Host commands -/

variable {P : Part → Prop} {s t : State}

section
variable (h : Updates P s t)
include h

theorem Updates.withTx {n : Byte} {act : ChanId → State} (hact : ∀ i, Updates P s (act i)) :
    Updates P s (t.withTx n act) := by
  refine h.atPort ?_
  split
  · exact h.refuse _
  · exact .ite (fun _ => h.refuse _) fun _ => .ite (fun _ => h.refuse _) fun _ => hact _

theorem Updates.withRx {n : Byte} {act : ChanId → State} (hact : ∀ i, Updates P s (act i)) :
    Updates P s (t.withRx n act) := by
  refine h.atPort ?_
  split
  · exact h.refuse _
  · exact .ite (fun _ => h.refuse _) fun _ => .ite (fun _ => h.refuse _) fun _ => hact _

theorem Updates.whenUnconfigured {u : State} (hu : t.station = .unconfigured → Updates P s u) :
    Updates P s (t.whenUnconfigured u) := h.atPort (.ite hu fun _ => h.refuse _)

end

/-- FIX answered DONE keeps the definitions and the counters (R83, R110, R187). -/
theorem Updates.freeze (hT : P .tx) (hX : P .rx) (hS : P .station) (hC : P .cursor) (h : Updates P s t) :
    Updates P s t.freeze := by
  have htx : Updates P s t.fixTx := h.foldl (fun u n hu => hu.setTx hT n (u.txc n).fixed rfl) _
  have hrx : Updates P s t.fixTx.fixRx := htx.foldl (fun u n hu => hu.setRx hX n (u.rxc n).fixed rfl rfl rfl) _
  rw [State.freeze_eq]
  generalize t.fixTx.fixRx = u at hrx
  have hoffline : Updates P s { u with station := .offline } := hrx.add (.station hS .offline (by decide))
  exact hoffline.add (.cursor hC 0 (fun hlen => hlen) fun _ => rfl)

/-- All counters cleared by READ_COUNTERS (R165). -/
theorem Updates.clearCounters (hP : P .rx) (h : Updates P s t) : Updates P s t.clearCounters := by
  have hzero : Updates P s { t with counters := Counters.zero } :=
    h.add (.counters Counters.zero fun _ => by simp [Counters.InRange, Counters.zero])
  exact hzero.foldl (fun u n hu => hu.add
    (.rx hP n (u.rxc n).countersCleared rfl (.inr (Nat.zero_le _)) (.inr (Nat.zero_le _)))) _

/-! ## Every command -/

/-- The commands that replace blocks whole or store a part of the configuration. -/
def replaces : Instr → Bool
  | .hardReset _ _ _ _ _ => true
  | .startingEnd => true
  | .restart => true
  | .setLine _ _ _ _ _ _ => true
  | .defineTx _ _ _ _ _ => true
  | .defineRx _ _ _ _ _ _ => true
  | .defineSchedule _ _ => true
  | _ => false

/-- The parts of the state that a command other than those may touch. -/
def touches : Instr → Part → Bool
  | .frameEnd _, _ => true
  | .writeBuffer _ _ _ _, p => p == .memory
  | .fix, p => p == .tx || p == .rx || p == .station || p == .cursor
  | .enableTx _, p | .clearTx _, p | .teardownTx _, p | .absenceCountLimit _, p | .attemptsLimit _, p
  | .latersLimit _, p => p == .tx
  | .enableRx _, p | .haltRx _, p | .clearRx _, p | .teardownRx _, p | .readCounters _, p | .patienceExpiry _, p =>
    p == .rx
  | c, p => movesTurns c && p != .memory

/-- Every other command is made of updates of the parts it may touch. -/
theorem exec_updates {c : Instr} (hc : replaces c = false) (hP : ∀ p, touches c p = true → P p)
    (h : exec c s = .next t) : Updates P s t := by
  have hself : Updates P s s := .refl s
  have hdone : ∀ {u : State} (rs : List Byte), Updates P s u → Updates P s (u.answering .done rs) := fun rs hu =>
    hu.answering .done rs
  cases c with
  | hardReset | startingEnd | restart | setLine | defineTx | defineRx | defineSchedule => cases hc
  | fix =>
    obtain rfl := Host.Outcome.next.inj h
    exact hself.whenUnconfigured fun _ => .ite (fun _ => hdone _ (hself.freeze (hP .tx rfl) (hP .rx rfl) (hP .station rfl) (hP .cursor rfl))) fun _ => hself.answering _ _
  | push q d =>
    obtain rfl := Host.Outcome.next.inj h
    refine hself.atPort ?_
    split
    · exact hself.refuse _
    · split
      · exact hdone _ (((hself.setOwners _ _).setOwner _ _).setQueue _ _)
      · exact hself.refuse _
      · exact hself.refuse _
  | pop q =>
    obtain rfl := Host.Outcome.next.inj h
    refine hself.atPort ?_
    split
    · exact hself.refuse _
    · split
      · exact hself.refuse _
      · exact hdone _ ((hself.setQueue _ _).setOwners _ _)
  | queueStatus q =>
    obtain rfl := Host.Outcome.next.inj h
    refine hself.atPort ?_
    split
    · exact hself.refuse _
    · exact hdone _ hself
  | readDesc d =>
    obtain rfl := Host.Outcome.next.inj h
    exact hself.atPort (hdone _ hself)
  | writeDesc d fill ni nm rq l =>
    obtain rfl := Host.Outcome.next.inj h
    refine hself.atPort ?_
    split
    · next f _ _ _ _ _ =>
      exact .ite (fun _ => hself.refuse _) fun _ => hdone _ (hself.setDesc (descOf d) _
        (by exact .inr (Nat.le_of_lt_succ f.isLt)) (by exact .inr (.inl ⟨rfl, rfl, rfl⟩)))
    · exact hself.refuse _
  | readBuffer d o k =>
    obtain rfl := Host.Outcome.next.inj h
    exact hself.atPort (.ite (fun _ => hself.refuse _) fun _ => .ite (fun _ => hself.refuse _) fun _ => hdone _ hself)
  | writeBuffer d o k data =>
    obtain rfl := Host.Outcome.next.inj h
    refine .ite (fun _ => hself.nothingTaken) fun _ => hself.atPort (.ite (fun _ => hself.refuse _) fun hrange =>
      .ite (fun _ => hself.refuse _) fun _ => hdone _ (hself.add (.memory (hP .memory rfl) _ _ _ ?_)))
    have hin := bufferRange_iff.mp (Bool.not_eq_false _ ▸ hrange)
    rw [List.length_take, announced_eq, Config.bufferSize]
    split <;> omega
  | enableTx n =>
    obtain rfl := Host.Outcome.next.inj h
    exact hself.withTx fun i => .ite (fun _ => hdone _ (hself.setTx (hP .tx rfl) i _ rfl)) fun _ => hself.refuse _
  | clearTx n =>
    obtain rfl := Host.Outcome.next.inj h
    exact hself.withTx fun i => .ite (fun _ => hdone _ (hself.setTx (hP .tx rfl) i _ rfl)) fun _ => hself.refuse _
  | teardownTx n =>
    obtain rfl := Host.Outcome.next.inj h
    refine hself.withTx fun i => ?_
    have hend := hdone [] (hself.completeTeardown (hP .tx rfl) i)
    split
    · exact hself.refuse _
    · exact hself.refuse _
    · exact hend
    · exact hend
    · exact .ite (fun _ => hdone _ (hself.setTx (hP .tx rfl) i _ rfl)) fun _ => hend
  | enableRx n =>
    obtain rfl := Host.Outcome.next.inj h
    exact hself.withRx fun i => .ite (fun _ => hdone _ ((hself.clearTallyRow i).setRx (hP .rx rfl) i _ rfl rfl rfl))
      fun _ => hself.refuse _
  | haltRx n =>
    obtain rfl := Host.Outcome.next.inj h
    refine hself.withRx fun i => ?_
    split
    · exact hself.refuse _
    · exact hself.refuse _
    · exact hdone _ (hself.setRx (hP .rx rfl) i _ rfl rfl rfl)
    · exact hdone _ (hself.abandonTo (hP .rx rfl) i _)
    · exact hdone _ (hself.abandonTo (hP .rx rfl) i _)
  | clearRx n =>
    obtain rfl := Host.Outcome.next.inj h
    exact hself.withRx fun i => .ite (fun _ => hdone _ (hself.setRx (hP .rx rfl) i _ rfl rfl rfl)) fun _ => hself.refuse _
  | teardownRx n =>
    obtain rfl := Host.Outcome.next.inj h
    exact hself.withRx fun i => .ite (fun _ => hself.refuse _) fun _ => hdone _ (hself.completeRxTeardown (hP .rx rfl) i)
  | readStation =>
    obtain rfl := Host.Outcome.next.inj h
    exact hself.atPort (hdone _ hself)
  | readRoster =>
    obtain rfl := Host.Outcome.next.inj h
    exact hself.atPort (hdone _ hself)
  | readTx n =>
    obtain rfl := Host.Outcome.next.inj h
    refine hself.atPort ?_
    split
    · exact hself.refuse _
    · exact hdone _ hself
  | readRx n =>
    obtain rfl := Host.Outcome.next.inj h
    refine hself.atPort ?_
    split
    · exact hself.refuse _
    · exact hdone _ hself
  | readCounters option =>
    obtain rfl := Host.Outcome.next.inj h
    exact hself.atPort (.ite (fun _ => hdone _ hself) fun _ => .ite (fun _ => hdone _ (hself.clearCounters (hP .rx rfl)))
      fun _ => hself.refuse _)
  | readEvents =>
    obtain rfl := Host.Outcome.next.inj h
    exact hself.atPort (hdone _ (hself.add (.events _)))
  | unknownCommand code =>
    obtain rfl := Host.Outcome.next.inj h
    exact .ite (fun _ => hself) fun _ => hself.atPort (hself.refuse _)
  | transactionAbort bytes =>
    obtain rfl := Host.Outcome.next.inj h
    exact hself.nothingTaken
  | patienceExpiry n =>
    obtain rfl := Host.Outcome.next.inj h
    exact .ite (fun _ => hself.abandonTo (hP .rx rfl) n _) fun _ => hself
  | absenceCountLimit n =>
    obtain rfl := Host.Outcome.next.inj h
    exact .ite (fun _ => hself.advanceAbsence (hP .tx rfl) n) fun _ => hself
  | attemptsLimit n =>
    obtain rfl := Host.Outcome.next.inj h
    exact .ite (fun _ => (hself.applyOutcome (hP .tx rfl) n _).finishTearing (hP .tx rfl) n) fun _ => hself
  | latersLimit n =>
    obtain rfl := Host.Outcome.next.inj h
    exact .ite (fun _ => (hself.applyOutcome (hP .tx rfl) n _).finishTearing (hP .tx rfl) n) fun _ => hself
  | frameEnd bytes =>
    have hall : ∀ p, P p := fun p => hP p rfl
    exact (Updates.kept (fun p _ => hall p) s).exec rfl
      (fun _ _ f hf u hu => hu.replyDecision (hall .rx) (hall .memory) hf f.channel) hself h
  | _ =>
    exact (Updates.kept (fun p hp => hP p (by simpa [touches, movesTurns] using hp)) s).exec rfl (fun _ hc => by cases hc) hself h

end Sys2Proof.Machine
end

section
/-! PROOFS. What the resets and the configuration commands leave, and the invariants that follow from what a step is made of:
packet memory, the schedule, the counters, the fills and the roster. -/

namespace Sys2Proof.Machine

open Sys2Proof.Safety

/-! ## Resets and configuration commands -/

/-- What a reset, the end of STARTING or a configuration command can leave of a state (R179 to R189). -/
inductive Replaced (c : Instr) (s : State) : State → Prop where
  | onlyAnswered (answer : List Byte) (skips : Bool) : Replaced c s { s with answer := answer, portSkips := skips }
  | reset (hc : isReset c = true) (st : StationState) (hst : st = .starting ∨ st = .unconfigured) (a : Station)
      (answer : List Byte) (skips : Bool) :
      Replaced c s { State.reset with station := st, ownAddr := a, mem := s.mem, rxdLow := s.rxdLow, answer := answer,
                                      portSkips := skips, pending := s.pending }
  | cleared (hc : c = .startingEnd) (hst : s.station = .starting) :
      Replaced c s { s with station := .unconfigured, mem := [], sinceLow := 0 }
  | line (hst : s.station = .unconfigured) (rate : Fin 4) (q : QueueId) (mask : BitVec 32) (answer : List Byte) :
      Replaced c s { s with cfg := { s.cfg with rate := rate, markerPool := q, mask := mask }, answer := answer }
  | tx (hst : s.station = .unconfigured) (n : ChanId) (df : TxDef) (answer : List Byte) :
      Replaced c s { s.setTx n { s.txc n with defn := some df } with answer := answer }
  | rx (hst : s.station = .unconfigured) (n : ChanId) (df : RxDef) (hdf : 1 ≤ df.patience ∧ df.patience ≤ 255)
      (answer : List Byte) : Replaced c s { s.setRx n { s.rxc n with defn := some df } with answer := answer }
  | schedule (hst : s.station = .unconfigured) (entries : Table 32 (Option ChanId)) (len : Nat) (hlen : 1 ≤ len ∧ len ≤ 32)
      (answer : List Byte) :
      Replaced c s { s with cfg := { s.cfg with schedule := entries, length := len }, answer := answer }

variable {c : Instr} {s t : State}

theorem Replaced.answered (answer : List Byte) : Replaced c s { s with answer := answer } :=
  .onlyAnswered answer s.portSkips

theorem Replaced.atPort {u : State} (hu : Replaced c s u) : Replaced c s (s.atPort u) := by
  unfold State.atPort
  split
  · exact .onlyAnswered [] false
  · split
    · exact .answered _
    · exact hu

theorem Replaced.whenUnconfigured {u : State} (hu : s.station = .unconfigured → Replaced c s u) :
    Replaced c s (s.whenUnconfigured u) := by
  refine Replaced.atPort ?_
  split
  · exact hu ‹_›
  · exact .answered _

theorem exec_replaced (hc : replaces c = true) (h : exec c s = .next t) : Replaced c s t := by
  cases c with
  | hardReset a0 a1 a2 a3 low =>
    obtain rfl := Host.Outcome.next.inj h
    exact .reset rfl .starting (.inl rfl) (strapAddress a0 a1 a2 a3) [] low
  | restart =>
    obtain rfl := Host.Outcome.next.inj h
    exact (Replaced.reset rfl .unconfigured (.inr rfl) s.ownAddr [statusByte .done] false).atPort
  | startingEnd =>
    obtain rfl := Host.Outcome.next.inj h
    split
    · exact .cleared rfl ‹_›
    · exact .answered s.answer
  | setLine rate marker m0 m1 m2 m3 =>
    obtain rfl := Host.Outcome.next.inj h
    refine Replaced.whenUnconfigured fun hst => ?_
    split
    · exact .line hst _ _ _ _
    · exact .answered _
  | defineTx n station channel submit notice =>
    obtain rfl := Host.Outcome.next.inj h
    refine Replaced.whenUnconfigured fun hst => ?_
    split
    · split
      · exact .answered _
      · exact .tx hst _ _ _
    · exact .answered _
  | defineRx n headPool bodyPool delivery policy patience =>
    obtain rfl := Host.Outcome.next.inj h
    refine Replaced.whenUnconfigured fun hst => ?_
    split
    · split
      · exact .answered _
      · next hpat =>
        have hpos : patience.toNat ≠ 0 := fun h0 => hpat (BitVec.eq_of_toNat_eq h0)
        exact .rx hst _ _ ⟨Nat.one_le_iff_ne_zero.mpr hpos, Nat.le_of_lt_succ patience.isLt⟩ _
    · exact .answered _
  | defineSchedule length entries =>
    obtain rfl := Host.Outcome.next.inj h
    split
    · exact .onlyAnswered [] false
    · refine Replaced.whenUnconfigured fun hst => ?_
      split
      · exact .answered _
      · next hlen =>
        rw [announced_eq] at hlen
        split
        · exact .answered _
        · exact .schedule hst _ _ (by_contra fun hbad => hlen (if_neg hbad)) _
  | _ => cases hc

/-! ## Every step -/

/-- A step is the idle step of an empty queue, or its front command's meaning with the rest waiting. -/
theorem step_cases (h : step s = .next t) :
    t = s.idleTick ∨ ∃ c rest, exec c { s with pending := rest } = .next t := by
  unfold step at h
  split at h
  · exact .inl (Host.Outcome.next.inj h).symm
  · exact .inr ⟨_, _, h⟩

/-- The idle step changes nothing but the time since RXD was last low. -/
theorem idleTick_eq (s : State) : ∃ k, s.idleTick = { s with sinceLow := k } := by
  unfold State.idleTick
  split
  · exact ⟨s.sinceLow, rfl⟩
  · exact ⟨_, rfl⟩

/-- What single updates keep, whatever they touch, and the resets and configuration commands keep, every step keeps. -/
theorem step_keeps {Q : State → Prop} (hpending : ∀ u rest, Q u → Q { u with pending := rest })
    (hupdate : ∀ u v, Update (fun _ => True) u v → Q u → Q v) (hreplaced : ∀ c u v, Replaced c u v → Q u → Q v)
    (hs : Q s) (h : step s = .next t) : Q t := by
  obtain rfl | ⟨c, rest, hexec⟩ := step_cases h
  · obtain ⟨k, hk⟩ := idleTick_eq s
    rw [hk]
    exact hupdate _ _ (.line trivial s.turn s.line k s.rxdLow) hs
  · have hs := hpending s rest hs
    cases hc : replaces c with
    | true => exact hreplaced _ _ _ (exec_replaced hc hexec) hs
    | false => exact (exec_updates hc (fun _ _ => trivial) hexec).keep hs hupdate

theorem Replaced.memoryCanonical (h : Replaced c s t) (hs : MemoryCanonical s) : MemoryCanonical t := by
  cases h with
  | cleared => exact rfl
  | _ => exact hs

/-- Settles O51: updates write packet memory inside one buffer only, and a reset keeps it or clears it. -/
theorem packetMemoryStaysCanonical : Obligations.PacketMemoryStaysCanonical := fun _ _ hs h =>
  step_keeps (fun _ _ hu => hu) (fun _ _ hu => hu.memoryCanonical) (fun _ _ _ hu => hu.memoryCanonical) hs h

theorem Replaced.rosterSound (h : Replaced c s t) (hs : RosterSound s) : RosterSound t := by
  cases h with
  | reset => exact ⟨fun b => by simp [State.rosterOf, State.reset, RosterEntry.reset, Config.missLimit],
      by simp [State.rosterOf, State.reset]⟩
  | _ => exact hs

/-- Settles O53: each update of the roster leaves it sound (`Updates.heardFrom`, `Updates.missTurn`, `Updates.joinLine`). -/
theorem rosterStaysSound : Obligations.RosterStaysSound := fun _ _ hs h =>
  step_keeps (fun _ _ hu => hu) (fun _ _ hu => hu.rosterSound) (fun _ _ _ hu => hu.rosterSound) hs h

theorem Replaced.scheduleSound (h : Replaced c s t) (hs : ScheduleSound s) : ScheduleSound t := by
  obtain ⟨hpos, hle, hcur, hzero⟩ := hs
  cases h with
  | reset => exact ⟨le_refl 1, Nat.one_le_ofNat, Nat.zero_lt_one, fun _ => rfl⟩
  | cleared _ hst => exact ⟨hpos, hle, hcur, fun _ => hzero (.inl hst)⟩
  | schedule hst entries len hlen =>
    refine ⟨hlen.1, hlen.2, ?_, hzero⟩
    rw [hzero (.inr hst)]
    exact hlen.1
  | _ => exact ⟨hpos, hle, hcur, hzero⟩

theorem Replaced.countersInRange (h : Replaced c s t) (hs : CountersInRange s) : CountersInRange t := by
  cases h with
  | reset => simp [CountersInRange, State.reset, Counters.zero, State.rxc, RxChan.reset]
  | rx _ n df =>
    obtain ⟨h1, h2, h3, h4, h5, h6, h7, hr⟩ := hs
    refine ⟨h1, h2, h3, h4, h5, h6, h7, fun m => ?_⟩
    change ((s.setRx n { s.rxc n with defn := some df }).rxc m).drops ≤ _
      ∧ ((s.setRx n { s.rxc n with defn := some df }).rxc m).abandons ≤ _
    rw [State.rxc_setRx]
    split
    · exact hr n
    · exact hr m
  | _ => exact hs

theorem Replaced.fillsInRange (h : Replaced c s t) (hs : FillsInRange s) : FillsInRange t := by
  cases h with
  | reset => exact fun d => by simp [State.desc, State.reset, Desc.reset]
  | _ => exact hs

/-- Settles O54: the cursor moves only to an entry in use and only past FIX, counts saturate, and fills are taken from a
range-checked argument, a frame's payload or 0. -/
theorem scheduleAndCountersStayInRange : Obligations.ScheduleAndCountersStayInRange :=
  ⟨fun _ _ hs h =>
    step_keeps (fun _ _ hu => hu) (fun _ _ hu => hu.scheduleSound) (fun _ _ _ hu => hu.scheduleSound) hs h,
   fun _ _ hs h =>
    step_keeps (fun _ _ hu => hu) (fun _ _ hu => hu.countersInRange) (fun _ _ _ hu => hu.countersInRange) hs h,
   fun _ _ hs h =>
    step_keeps (fun _ _ hu => hu) (fun _ _ hu => hu.fillsInRange) (fun _ _ _ hu => hu.fillsInRange) hs h⟩

/-! ## What commands leave alone -/

/-- Settles O49: no other command contains an update of packet memory. -/
theorem packetMemoryWriters : Obligations.PacketMemoryWriters := by
  intro c s t hc h a
  cases hreplaces : replaces c with
  | true =>
    cases exec_replaced hreplaces h with
    | cleared hstart => rw [hstart] at hc; cases hc
    | _ => rfl
  | false =>
    have htouches : touches c .memory = false := by
      cases c with
      | frameEnd | writeBuffer | startingEnd => cases hc
      | _ => rfl
    have hupdates := exec_updates (P := (· ≠ .memory)) hreplaces (fun p hp hp' => by simp [hp', htouches] at hp) h
    rw [hupdates.mem_eq (not_not.mpr rfl)]

/-- A configuration command with all its bytes is refused outside UNCONFIGURED (R181). -/
theorem exec_config_refused (hc : isConfigCommand c = true) (hwf : wellFormed c = true) (hs : portTakes s = true)
    (hst : s.station ≠ .unconfigured) : exec c s = .next (s.refuse .wrongState) := by
  have hrefuse : ∀ act, s.whenUnconfigured act = s.refuse .wrongState := fun act => by
    rw [State.whenUnconfigured, State.atPort_of_portTakes _ hs, if_neg hst]
  cases c with
  | setLine => exact congrArg _ (hrefuse _)
  | defineTx => exact congrArg _ (hrefuse _)
  | defineRx => exact congrArg _ (hrefuse _)
  | fix => exact congrArg _ (hrefuse _)
  | defineSchedule len entries =>
    have hlen : entries.length = announced 32 len := by simpa [wellFormed] using hwf
    exact congrArg _ ((if_neg (by omega)).trans (hrefuse _))
  | _ => cases hc

/-- Settles O7: configuration commands are refused by `State.whenUnconfigured`; updates keep configuration and definitions,
and what stores a part of the configuration needs UNCONFIGURED. -/
theorem configurationFrozenAfterFix : Obligations.ConfigurationFrozenAfterFix := by
  refine ⟨fun c s hc hwf hs hst => exec_config_refused hc hwf hs hst, fun c s t hst hc h => ?_⟩
  cases hreplaces : replaces c with
  | true =>
    cases exec_replaced hreplaces h with
    | onlyAnswered => exact ⟨rfl, fun _ => rfl, fun _ => rfl⟩
    | cleared => exact ⟨rfl, fun _ => rfl, fun _ => rfl⟩
    | reset hreset => simp [hc] at hreset
    | line hun => exact absurd hun hst
    | tx hun => exact absurd hun hst
    | rx hun => exact absurd hun hst
    | schedule hun => exact absurd hun hst
  | false =>
    have hupdates := exec_updates (P := fun _ => True) hreplaces (fun _ _ => trivial) h
    exact ⟨hupdates.cfg_eq, hupdates.txDefn_eq, hupdates.rxDefn_eq⟩

end Sys2Proof.Machine
end

section
/-! PROOFS. The queue of commands, the resets and the definitions of chapter 9 (R22, R23, R179 to R184, R188, R189). -/

namespace Sys2Proof.Machine

open Sys2Proof.Safety

/-! ## The queue of commands -/

/-- Settles O1: with an entry at the front `step` is that entry's meaning; with none it is the idle tick, read by cases. -/
theorem stepRunsFrontCommand : Obligations.StepRunsFrontCommand := by
  refine ⟨fun c rest s hfront => ?front, fun s hempty => ?idle⟩
  case front => rw [step, hfront]
  case idle =>
    have htick : step s = .next s.idleTick := by rw [step, hempty]
    rw [htick]
    simp only [State.idleTick, sinceLowCap]
    split <;> rfl

/-! ## Resets (R180, R188, R189) -/

theorem strapAddress_val (a0 a1 a2 a3 : Bool) :
    (strapAddress a0 a1 a2 a3).val = a0.toNat + 2 * a1.toNat + 4 * a2.toNat + 8 * a3.toNat := by
  revert a0 a1 a2 a3
  decide

theorem exec_hardReset (a0 a1 a2 a3 low : Bool) (s : State) :
    exec (.hardReset a0 a1 a2 a3 low) s = .next { State.reset with
      ownAddr := strapAddress a0 a1 a2 a3, mem := s.mem, rxdLow := s.rxdLow, portSkips := low, pending := s.pending } := rfl

/-- With every queue empty and no flag set ATTN# is high (R39, R160). -/
theorem State.attnLow_eq_false {s : State} (hqueues : ∀ q, s.queue q = []) (hevents : s.events = Events.clear) :
    s.attnLow = false := by
  simp [State.attnLow, hqueues, hevents, Events.any, Events.clear]

/-- Settles O2: the state after HARD_RESET is `State.reset` but for five fields; each table is filled with one reset value. -/
theorem hardResetSetsResetValues : Obligations.HardResetSetsResetValues := by
  intro a0 a1 a2 a3 low s
  refine ⟨_, exec_hardReset a0 a1 a2 a3 low s, rfl, strapAddress_val a0 a1 a2 a3, fun d => look_filled _ d,
    fun q => look_filled _ q, fun n => look_filled _ n, fun n => look_filled _ n, fun n a => ?tallies,
    fun a => look_filled _ a, rfl, rfl, rfl, rfl, fun e => look_filled _ e, rfl, rfl, rfl, rfl, rfl, rfl, rfl, rfl,
    State.attnLow_eq_false (fun q => look_filled _ q) rfl, rfl, rfl, rfl, rfl, rfl⟩
  case tallies =>
    change look (look (filled 8 (filled 16 none)) n) a = none
    rw [look_filled, look_filled]

theorem exec_startingEnd {s : State} (hst : s.station = .starting) :
    exec .startingEnd s = .next { s with station := .unconfigured, mem := [], sinceLow := 0 } :=
  congrArg Host.Outcome.next (if_pos hst)

theorem exec_restart {s : State} (hs : portTakes s = true) :
    exec .restart s = .next { State.reset with
      station := .unconfigured, ownAddr := s.ownAddr, mem := s.mem, rxdLow := s.rxdLow, answer := [statusByte .done],
      pending := s.pending } :=
  congrArg Host.Outcome.next (State.atPort_of_portTakes _ hs)

/-- Settles O3: an empty memory list reads 00h everywhere, and both resets start from `State.reset`. -/
theorem startingEndAndRestart : Obligations.StartingEndAndRestart :=
  ⟨fun _ hst => ⟨_, exec_startingEnd hst, rfl, fun _ => rfl⟩,
   fun _ hs => ⟨_, _, exec_hardReset _ _ _ _ _ _, exec_restart hs, rfl⟩⟩

/-! ## SET_LINE, DEFINE_TX and DEFINE_RX (R182 to R184) -/

/-- The four mask bytes are the four bytes of the mask, byte 0 the lowest (R193). -/
theorem maskOf_getLsbD (m0 m1 m2 m3 : Byte) {k : Nat} (hk : k < 8) :
    (maskOf m0 m1 m2 m3).getLsbD k = m0.getLsbD k ∧ (maskOf m0 m1 m2 m3).getLsbD (8 + k) = m1.getLsbD k
    ∧ (maskOf m0 m1 m2 m3).getLsbD (16 + k) = m2.getLsbD k ∧ (maskOf m0 m1 m2 m3).getLsbD (24 + k) = m3.getLsbD k := by
  have h1 : 8 + k - 8 = k := by omega
  have h2 : 16 + k - 8 - 8 = k := by omega
  have h3 : 24 + k - 8 - 8 - 8 = k := by omega
  refine ⟨?_, ?_, ?_, ?_⟩
  · simp only [maskOf, BitVec.getLsbD_append, hk, if_true]
  · simp only [maskOf, BitVec.getLsbD_append, h1, hk, if_true, show ¬ 8 + k < 8 by omega, if_false]
  · simp only [maskOf, BitVec.getLsbD_append, h2, hk, if_true, show ¬ 16 + k < 8 by omega,
      show ¬ 16 + k - 8 < 8 by omega, if_false]
  · simp only [maskOf, BitVec.getLsbD_append, h3, show ¬ 24 + k < 8 by omega, show ¬ 24 + k - 8 < 8 by omega,
      show ¬ 24 + k - 8 - 8 < 8 by omega, if_false]

section
variable {s : State} (hport : s.portSkips = false) (hst : s.station = .unconfigured)
include hport hst

theorem exec_setLine (rate marker m0 m1 m2 m3 : Byte) :
    exec (.setLine rate marker m0 m1 m2 m3) s = .next
      (match inRange 4 rate, inRange 32 marker with
        | some r, some q =>
          { s with cfg := { s.cfg with rate := r, markerPool := q, mask := maskOf m0 m1 m2 m3 } }.answering .done []
        | _, _ => s.refuse .badArgument) :=
  congrArg Host.Outcome.next (State.whenUnconfigured_taken _ hport hst)

theorem exec_defineTx (n station channel submit notice : Byte) :
    exec (.defineTx n station channel submit notice) s = .next
      (match inRange 8 n, inRange 16 station, inRange 8 channel, inRange 32 submit, inRange 32 notice with
        | some n, some a, some c, some q, some r =>
          if a = s.ownAddr then s.refuse .badArgument
          else (s.setTx n { s.txc n with
            defn := some { station := a, channel := c, submit := q, notice := r } }).answering .done []
        | _, _, _, _, _ => s.refuse .badArgument) :=
  congrArg Host.Outcome.next (State.whenUnconfigured_taken _ hport hst)

theorem exec_defineRx (n headPool bodyPool delivery policy patience : Byte) :
    exec (.defineRx n headPool bodyPool delivery policy patience) s = .next
      (match inRange 8 n, inRange 32 headPool, inRange 32 bodyPool, inRange 32 delivery, policyOf policy with
        | some n, some h, some b, some d, some p =>
          if patience = 0 then s.refuse .badArgument
          else (s.setRx n { s.rxc n with
            defn := some { headPool := h, bodyPool := b, delivery := d, policy := p,
                           patience := patience.toNat } }).answering .done []
        | _, _, _, _, _ => s.refuse .badArgument) :=
  congrArg Host.Outcome.next (State.whenUnconfigured_taken _ hport hst)

end

theorem inRange_val {n : Nat} {b : Byte} {i : Fin n} (h : inRange n b = some i) : b.toNat = i.val ∧ i.val < n := by
  unfold inRange at h
  split at h
  · cases h
    exact ⟨rfl, ‹_›⟩
  · cases h

theorem policyOf_eq_some {b : Byte} {p : Policy} (h : b = (match p with | .refuse => 0x00#8 | .drop => 0x01#8)) :
    policyOf b = some p := by
  subst h
  cases p <;> rfl

theorem policyOf_eq_none {b : Byte} (h : 2 ≤ b.toNat) : policyOf b = none := by
  have h0 : b ≠ 0x00#8 := by rintro rfl; simp at h
  have h1 : b ≠ 0x01#8 := by rintro rfl; simp at h
  rw [policyOf, if_neg h0, if_neg h1]

/-- Settles O4: each command is decided by the reading of its argument bytes (`inRange_eq_some`, `inRange_eq_none`,
`policyOf_eq_some`), and DEFINE_TX and DEFINE_RX by the own address and the patience besides. -/
theorem definitionsStored : Obligations.DefinitionsStored := by
  refine ⟨fun rate marker m0 m1 m2 m3 s hport hst => ⟨fun r q hr hq => ?line, fun hbad => ?lineBad⟩,
    fun n st ch su no s hport hst => ⟨fun i a c q r hn ha hc hq hr hown => ?tx, fun hbad => ?txBad⟩,
    fun n hp bp dq po pa s hport hst => ⟨fun i h b d p hn hh hb hd hpo hpa => ?rx, fun hbad => ?rxBad⟩⟩
  case line =>
    rw [exec_setLine hport hst, inRange_eq_some hr, inRange_eq_some hq]
    exact ⟨_, rfl, rfl, rfl, fun k => maskOf_getLsbD m0 m1 m2 m3 k.isLt⟩
  case lineBad =>
    rw [exec_setLine hport hst]
    split
    · next hr hq =>
      have := inRange_val hr
      have := inRange_val hq
      omega
    · rfl
  case tx =>
    rw [exec_defineTx hport hst, inRange_eq_some hn, inRange_eq_some ha, inRange_eq_some hc, inRange_eq_some hq,
      inRange_eq_some hr]
    dsimp only
    rw [if_neg hown]
    refine ⟨_, rfl, rfl, fun m => ?_⟩
    rw [State.txc_answering_other, State.txc_setTx]
    simp only [eq_comm]
  case txBad =>
    rw [exec_defineTx hport hst]
    split
    · next i a c q r hn ha hc hq hr =>
      have := inRange_val hn
      have := inRange_val ha
      have := inRange_val hc
      have := inRange_val hq
      have := inRange_val hr
      rw [if_pos (Fin.ext (by omega))]
      rfl
    · rfl
  case rx =>
    rw [exec_defineRx hport hst, inRange_eq_some hn, inRange_eq_some hh, inRange_eq_some hb, inRange_eq_some hd,
      policyOf_eq_some hpo]
    dsimp only
    rw [if_neg hpa]
    refine ⟨_, rfl, rfl, fun m => ?_⟩
    rw [State.rxc_answering_other, State.rxc_setRx]
    simp only [eq_comm]
  case rxBad =>
    rw [exec_defineRx hport hst]
    split
    · next i h b d p hn hh hb hd hp =>
      have := inRange_val hn
      have := inRange_val hh
      have := inRange_val hb
      have := inRange_val hd
      have hpo : po.toNat < 2 := Nat.lt_of_not_le fun hle => by simp [policyOf_eq_none hle] at hp
      rw [if_pos (((((hbad.resolve_left (by omega)).resolve_left (by omega)).resolve_left (by omega)).resolve_left
        (by omega)).resolve_left (by omega))]
      rfl
    · rfl

/-! ## PUSH answered DONE (R28) -/

theorem pushMembers_frame (s : State) (q : QueueId) (d : DescId) (members : List DescId) :
    s.pushMembers q d members =
      { s with descs := (s.pushMembers q d members).descs, queues := (s.pushMembers q d members).queues } := by
  unfold State.pushMembers
  rw [setOwners_frame]
  rfl

theorem pushMembers_desc (s : State) (q : QueueId) (d e : DescId) (members : List DescId) :
    (s.pushMembers q d members).desc e = { s.desc e with
      owner := if e = d then .queued q else if e ∈ members then .linked else (s.desc e).owner } := by
  simp only [State.pushMembers, State.desc_setQueue_other, State.desc_setOwner, setOwners_desc]
  by_cases hd : d = e
  · subst hd; simp
  · have hd' : ¬ e = d := fun x => hd x.symm
    simp [hd, hd']

/-- Settles O8: the walk holds the whole chain (`State.walk_of_isChain`), and the push is read off field by field. -/
theorem pushQueuesChain : Obligations.PushQueuesChain := by
  intro q d qi h ms s hs hq hd hchain hown
  rw [exec_push_held hs hq hd (State.walk_of_isChain hchain hown)]
  refine ⟨_, rfl, ?frame, fun r => ?queues, fun e => ?descs⟩
  case frame => rw [pushMembers_frame]; rfl
  case queues =>
    rw [State.queue_answering_other, pushMembers_queue]
    by_cases hr : qi = r
    · subst hr; simp
    · rw [if_neg hr, if_neg fun x => hr x.symm]
  case descs =>
    rw [State.desc_answering_other, pushMembers_desc]
    by_cases he : e = h <;> simp [he]

end Sys2Proof.Machine
end

section
/-! PROOFS. The host port and the commands that only read or that open a channel: what a command answers and that a refusal
changes nothing (R106 to R108, R132 to R134, R161, R165, R168 to R181), JOIN (R70) and the plain line events (R47, R56, R71,
R72). -/

namespace Sys2Proof.Machine

open Sys2Proof.Safety

/-! ## Every host command stands at the port (R177 to R179) -/

/-- A status byte and results stand ready; anything but DONE changes nothing else, and only BAD_CONFIG brings a result
(R177). -/
def Answered (s t : State) : Prop :=
  ∃ (st : Status) (results : List Byte), t.answer = statusByte st :: results
    ∧ (st ≠ .done → t = s.answering st results ∧ (st ≠ .badConfig → results = []))

section
variable {s t u : State}

theorem answered_refuse (s : State) (st : Status) : Answered s (s.refuse st) := ⟨st, [], rfl, fun _ => ⟨rfl, fun _ => rfl⟩⟩

theorem answered_done (s u : State) (rs : List Byte) : Answered s (u.answering .done rs) :=
  ⟨.done, rs, rfl, fun h => absurd rfl h⟩

theorem Answered.ite {c : Prop} [Decidable c] (ht : c → Answered s t) (hu : ¬ c → Answered s u) :
    Answered s (if c then t else u) := by
  split
  · exact ht ‹_›
  · exact hu ‹_›

end

/-- A host command with the bytes it needs stands at the port with an answer, whatever the station state. -/
def AtPort (c : Instr) (s : State) : Prop := ∃ act, exec c s = .next (s.atPort act) ∧ Answered s act

section
variable {c : Instr} {s : State}

theorem atPort_of_eq {act : State} (h : exec c s = .next (s.atPort act)) (ha : Answered s act) : AtPort c s := ⟨act, h, ha⟩

theorem atPort_withTx {n : Byte} {act : ChanId → State} (h : exec c s = .next (s.withTx n act))
    (ha : ∀ i, Answered s (act i)) : AtPort c s := by
  refine ⟨_, h, ?_⟩
  split
  · exact answered_refuse s _
  · exact .ite (fun _ => answered_refuse s _) fun _ => .ite (fun _ => answered_refuse s _) fun _ => ha _

theorem atPort_withRx {n : Byte} {act : ChanId → State} (h : exec c s = .next (s.withRx n act))
    (ha : ∀ i, Answered s (act i)) : AtPort c s := by
  refine ⟨_, h, ?_⟩
  split
  · exact answered_refuse s _
  · exact .ite (fun _ => answered_refuse s _) fun _ => .ite (fun _ => answered_refuse s _) fun _ => ha _

theorem atPort_whenUnconfigured {act : State} (h : exec c s = .next (s.whenUnconfigured act)) (ha : Answered s act) :
    AtPort c s := ⟨_, h, .ite (fun _ => ha) fun _ => answered_refuse s _⟩

theorem exec_host_atPort (hc : isHostCommand c = true) (hwf : wellFormed c = true) (s : State) : AtPort c s := by
  have hopen : ∀ (p : Prop) [Decidable p] (u : State), Answered s (if p then u.answering .done [] else s.refuse .wrongState) :=
    fun _ _ u => .ite (fun _ => answered_done s u _) fun _ => answered_refuse s _
  cases c with
  | setLine =>
    refine atPort_whenUnconfigured rfl ?_
    split
    · exact answered_done s _ _
    · exact answered_refuse s _
  | defineTx =>
    refine atPort_whenUnconfigured rfl ?_
    split
    · exact .ite (fun _ => answered_refuse s _) fun _ => answered_done s _ _
    · exact answered_refuse s _
  | defineRx =>
    refine atPort_whenUnconfigured rfl ?_
    split
    · exact .ite (fun _ => answered_refuse s _) fun _ => answered_done s _ _
    · exact answered_refuse s _
  | defineSchedule len entries =>
    have hlen : entries.length = announced 32 len := by simpa [wellFormed] using hwf
    refine atPort_whenUnconfigured (congrArg _ (if_neg (by omega))) (.ite (fun _ => answered_refuse s _) fun _ => ?_)
    split
    · exact answered_refuse s _
    · exact answered_done s _ _
  | fix =>
    exact atPort_whenUnconfigured rfl
      (.ite (fun _ => answered_done s _ _) fun _ => ⟨.badConfig, _, rfl, fun _ => ⟨rfl, fun h => absurd rfl h⟩⟩)
  | push =>
    refine atPort_of_eq rfl ?_
    split
    · exact answered_refuse s _
    · split
      · exact answered_done s _ _
      · exact answered_refuse s _
      · exact answered_refuse s _
  | pop =>
    refine atPort_of_eq rfl ?_
    split
    · exact answered_refuse s _
    · split
      · exact answered_refuse s _
      · exact answered_done s _ _
  | queueStatus =>
    refine atPort_of_eq rfl ?_
    split
    · exact answered_refuse s _
    · exact answered_done s _ _
  | readDesc => exact atPort_of_eq rfl (answered_done s _ _)
  | writeDesc =>
    refine atPort_of_eq rfl ?_
    split
    · exact .ite (fun _ => answered_refuse s _) fun _ => answered_done s _ _
    · exact answered_refuse s _
  | readBuffer =>
    exact atPort_of_eq rfl
      (.ite (fun _ => answered_refuse s _) fun _ => .ite (fun _ => answered_refuse s _) fun _ => answered_done s _ _)
  | writeBuffer d o count data =>
    have hlen : data.length = announced 64 count := by simpa [wellFormed] using hwf
    exact atPort_of_eq (congrArg _ (if_neg (by omega)))
      (.ite (fun _ => answered_refuse s _) fun _ => .ite (fun _ => answered_refuse s _) fun _ => answered_done s _ _)
  | join => exact atPort_of_eq rfl (hopen _ _)
  | leave =>
    refine atPort_of_eq rfl ?_
    split
    · exact answered_done s _ _
    · split
      · exact answered_done s _ _
      · exact answered_done s _ _
    · exact answered_refuse s _
  | enableTx => exact atPort_withTx rfl fun i => hopen _ _
  | clearTx => exact atPort_withTx rfl fun i => hopen _ _
  | teardownTx =>
    refine atPort_withTx rfl fun i => ?_
    split
    · exact answered_refuse s _
    · exact answered_refuse s _
    · exact answered_done s _ _
    · exact answered_done s _ _
    · exact .ite (fun _ => answered_done s _ _) fun _ => answered_done s _ _
  | enableRx => exact atPort_withRx rfl fun i => hopen _ _
  | haltRx =>
    refine atPort_withRx rfl fun i => ?_
    split
    · exact answered_refuse s _
    · exact answered_refuse s _
    · exact answered_done s _ _
    · exact answered_done s _ _
    · exact answered_done s _ _
  | clearRx => exact atPort_withRx rfl fun i => hopen _ _
  | teardownRx =>
    exact atPort_withRx rfl fun i => .ite (fun _ => answered_refuse s _) fun _ => answered_done s _ _
  | readStation => exact atPort_of_eq rfl (answered_done s _ _)
  | readRoster => exact atPort_of_eq rfl (answered_done s _ _)
  | readTx =>
    refine atPort_of_eq rfl ?_
    split
    · exact answered_refuse s _
    · exact answered_done s _ _
  | readRx =>
    refine atPort_of_eq rfl ?_
    split
    · exact answered_refuse s _
    · exact answered_done s _ _
  | readCounters =>
    exact atPort_of_eq rfl
      (.ite (fun _ => answered_done s _ _) fun _ => .ite (fun _ => answered_done s _ _) fun _ => answered_refuse s _)
  | readEvents => exact atPort_of_eq rfl (answered_done s _ _)
  | restart => exact atPort_of_eq rfl (answered_done s _ _)
  | unknownCommand code =>
    have hcode : isCommandCode code = false := by simpa [wellFormed] using hwf
    exact atPort_of_eq (congrArg _ (if_neg (by simp [hcode]))) (answered_refuse s _)
  | _ => cases hc

end

/-- The values of the nine status codes (R194). -/
theorem statusByte_mem (st : Status) :
    statusByte st ∈ [0xA0#8, 0xA1#8, 0xA2#8, 0xA3#8, 0xA4#8, 0xA5#8, 0xA6#8, 0xA7#8, 0xA8#8] := by
  cases st <;> decide

/-- Settles O48: every host command stands at the port (`exec_host_atPort`), which refuses it in STARTING and lets its own
answer stand otherwise. -/
theorem refusedCommandsChangeNothing : Obligations.RefusedCommandsChangeNothing := by
  intro c s hc hwf hport
  obtain ⟨act, hexec, hact⟩ := exec_host_atPort hc hwf s
  have hanswered : Answered s (s.atPort act) := by
    by_cases hst : s.station = .starting
    · rw [s.atPort_starting act hport hst]
      exact answered_refuse s _
    · rw [s.atPort_taken act hport hst]
      exact hact
  refine ⟨fun hst => ?starting, fun t ht => ?answer⟩
  case starting =>
    rw [hexec, s.atPort_starting act hport hst]
    rfl
  case answer =>
    obtain rfl : s.atPort act = t := Host.Outcome.next.inj (hexec.symm.trans ht)
    obtain ⟨st, results, hanswer, hrefused⟩ := hanswered
    refine ⟨statusByte st, results, hanswer, statusByte_mem st, fun hcode => ?_⟩
    obtain ⟨hframe, hresults⟩ := hrefused fun hdone => hcode (congrArg statusByte hdone)
    exact ⟨hframe, fun hconfig => hresults fun hst => hconfig (congrArg statusByte hst)⟩

/-! ## Channel commands (R106, R132) -/

section
variable {n : Byte} {i : ChanId} {s : State}

theorem withTx_badArgument (act : ChanId → State) (hs : portTakes s = true) (hn : 8 ≤ n.toNat) :
    s.withTx n act = s.refuse .badArgument := by
  rw [State.withTx, State.atPort_of_portTakes _ hs, inRange_eq_none hn]

/-- With its channel number in range a transmit channel command looks at the station state and the definition. -/
theorem withTx_inRange (act : ChanId → State) (hs : portTakes s = true) (hn : n.toNat = i.val) :
    s.withTx n act =
      if s.station = .unconfigured then s.refuse .wrongState
      else if (s.txc i).defn.isNone then s.refuse .badArgument else act i := by
  rw [State.withTx, State.atPort_of_portTakes _ hs, inRange_eq_some hn]

theorem withTx_taken (act : ChanId → State) (hs : portTakes s = true) (hn : n.toNat = i.val)
    (hst : s.station ≠ .unconfigured) (hd : (s.txc i).defn ≠ none) : s.withTx n act = act i := by
  rw [withTx_inRange act hs hn, if_neg hst, if_neg (by simpa using hd)]

theorem withRx_badArgument (act : ChanId → State) (hs : portTakes s = true) (hn : 8 ≤ n.toNat) :
    s.withRx n act = s.refuse .badArgument := by
  rw [State.withRx, State.atPort_of_portTakes _ hs, inRange_eq_none hn]

theorem withRx_inRange (act : ChanId → State) (hs : portTakes s = true) (hn : n.toNat = i.val) :
    s.withRx n act =
      if s.station = .unconfigured then s.refuse .wrongState
      else if (s.rxc i).defn.isNone then s.refuse .badArgument else act i := by
  rw [State.withRx, State.atPort_of_portTakes _ hs, inRange_eq_some hn]

theorem withRx_taken (act : ChanId → State) (hs : portTakes s = true) (hn : n.toNat = i.val)
    (hst : s.station ≠ .unconfigured) (hd : (s.rxc i).defn ≠ none) : s.withRx n act = act i := by
  rw [withRx_inRange act hs hn, if_neg hst, if_neg (by simpa using hd)]

/-- The three transmit channel commands share their checks. -/
theorem exec_txCommand {c : Instr} (hc : c ∈ [Instr.enableTx n, .clearTx n, .teardownTx n]) (s : State) :
    ∃ act, exec c s = .next (s.withTx n act) := by
  simp only [List.mem_cons, List.not_mem_nil, or_false] at hc
  obtain rfl | rfl | rfl := hc
  · exact ⟨_, rfl⟩
  · exact ⟨_, rfl⟩
  · exact ⟨_, rfl⟩

/-- The four receive channel commands share theirs. -/
theorem exec_rxCommand {c : Instr} (hc : c ∈ [Instr.enableRx n, .haltRx n, .clearRx n, .teardownRx n]) (s : State) :
    ∃ act, exec c s = .next (s.withRx n act) := by
  simp only [List.mem_cons, List.not_mem_nil, or_false] at hc
  obtain rfl | rfl | rfl | rfl := hc
  · exact ⟨_, rfl⟩
  · exact ⟨_, rfl⟩
  · exact ⟨_, rfl⟩
  · exact ⟨_, rfl⟩

end

/-- Settles O16: every channel command is `State.withTx` or `State.withRx`, which make the checks. -/
theorem channelCommandChecks : Obligations.ChannelCommandChecks := by
  intro n s hs
  refine ⟨fun c hc => ?tx, fun c hc => ?rx⟩
  case tx =>
    obtain ⟨act, hexec⟩ := exec_txCommand hc s
    rw [hexec]
    refine ⟨fun hn => by rw [withTx_badArgument act hs hn]; rfl, fun i hn => ?_⟩
    rw [withTx_inRange act hs hn]
    exact ⟨fun hst => by rw [if_pos hst]; rfl, fun hst hd => by rw [if_neg hst, hd]; rfl⟩
  case rx =>
    obtain ⟨act, hexec⟩ := exec_rxCommand hc s
    rw [hexec]
    refine ⟨fun hn => by rw [withRx_badArgument act hs hn]; rfl, fun i hn => ?_⟩
    rw [withRx_inRange act hs hn]
    exact ⟨fun hst => by rw [if_pos hst]; rfl, fun hst hd => by rw [if_neg hst, hd]; rfl⟩

/-- ENABLE_TX and CLEAR_TX differ in the one state that permits them (R107, R108). -/
theorem exec_opensTx {n : Byte} {i : ChanId} {s : State} {c : Instr} {st : TxState} (hn : n.toNat = i.val)
    (hs : portTakes s = true) (hst : s.station ≠ .unconfigured) (hd : (s.txc i).defn ≠ none)
    (hc : c = .enableTx n ∧ st = .disabled ∨ c = .clearTx n ∧ st = .halted) :
    exec c s = .next (if (s.txc i).state = st then (s.setTx i (s.txc i).opened).answering .done []
      else s.refuse .wrongState) := by
  obtain ⟨rfl, rfl⟩ | ⟨rfl, rfl⟩ := hc
  · exact congrArg _ (withTx_taken _ hs hn hst hd)
  · exact congrArg _ (withTx_taken _ hs hn hst hd)

/-- ENABLE_RX also forgets the channel's tallies (R133, R134). -/
theorem exec_opensRx {n : Byte} {i : ChanId} {s : State} {c : Instr} {st : RxState} (hn : n.toNat = i.val)
    (hs : portTakes s = true) (hst : s.station ≠ .unconfigured) (hd : (s.rxc i).defn ≠ none)
    (hc : c = .enableRx n ∧ st = .disabled ∨ c = .clearRx n ∧ st = .halted) :
    exec c s = .next (if (s.rxc i).state = st then
      ((if c = .enableRx n then s.clearTallyRow i else s).setRx i ((s.rxc i).atRest .idle)).answering .done []
      else s.refuse .wrongState) := by
  obtain ⟨rfl, rfl⟩ | ⟨rfl, rfl⟩ := hc
  · rw [if_pos rfl]
    exact congrArg _ (withRx_taken _ hs hn hst hd)
  · rw [if_neg (show ¬ Instr.clearRx n = .enableRx n from nofun)]
    exact congrArg _ (withRx_taken _ hs hn hst hd)

/-- Settles O17: past the shared checks each command looks at the channel's state alone. -/
theorem channelsOpened : Obligations.ChannelsOpened := by
  intro n i s hn hs hst
  refine ⟨fun c st hc hd => ?tx, fun c st hc hd => ?rx⟩
  case tx =>
    rw [exec_opensTx hn hs hst hd hc]
    refine ⟨fun hstate => by rw [if_neg hstate]; rfl, fun hstate => ?_⟩
    rw [if_pos hstate]
    refine ⟨_, rfl, rfl, fun m => ?_⟩
    rw [State.txc_answering_other, State.txc_setTx]
    simp only [eq_comm (a := i)]
    rfl
  case rx =>
    rw [exec_opensRx hn hs hst hd hc]
    refine ⟨fun hstate => by rw [if_neg hstate]; rfl, fun hstate => ?_⟩
    rw [if_pos hstate]
    by_cases henable : c = .enableRx n
    · rw [if_pos henable]
      refine ⟨_, rfl, rfl, fun m => ?_, fun m a => ?_⟩
      · rw [State.rxc_answering_other, State.rxc_setRx]
        simp only [eq_comm (a := i)]
        rfl
      · rw [State.tallyOf_answering_other, State.tallyOf_setRx_other, State.tallyOf_clearTallyRow]
        simp only [henable, and_true, eq_comm]
    · rw [if_neg henable]
      refine ⟨_, rfl, rfl, fun m => ?_, fun m a => ?_⟩
      · rw [State.rxc_answering_other, State.rxc_setRx]
        simp only [eq_comm (a := i)]
        rfl
      · simp only [henable, and_false, if_false, State.tallyOf_answering_other, State.tallyOf_setRx_other]

end Sys2Proof.Machine
end

section
/-! PROOFS. JOIN (R56, R70, R71), the status reads (R161, R165, R168 to R171, R196), the plain line events (R47, R52, R56,
R71, R72) and the invariants at reset. -/

namespace Sys2Proof.Machine

open Sys2Proof.Safety

/-! ## JOIN (R70) -/

theorem State.recentlyLow_iff (s : State) :
    s.recentlyLow = true ↔ s.rxdLow = true ∨ s.sinceLow ≤ 20 * Config.bitTime s.cfg.rate := by
  rw [State.recentlyLow, Bool.or_eq_true, decide_eq_true_eq]
  rfl

theorem joinLine_rosterOf (s : State) (a : Station) : s.joinLine.rosterOf a = RosterEntry.reset := look_filled _ a

theorem joinLine_tallyOf (s : State) (n : ChanId) (a : Station) : s.joinLine.tallyOf n a = none :=
  s.tallyOf_clearTallies n a

/-- Settles O14: past the port JOIN looks at the station state, and `joinLine` at the time since RXD was low. -/
theorem joinStartsListening : Obligations.JoinStartsListening := by
  refine ⟨fun s hport hst => ?joins, fun s hport hst => ?refused⟩
  case joins =>
    have hexec : exec .join s = .next (s.joinLine.answering .done []) :=
      congrArg Host.Outcome.next ((s.atPort_taken _ hport (by simp [hst])).trans (if_pos hst))
    refine ⟨_, hexec, rfl, fun a => joinLine_rosterOf s a, fun n a => joinLine_tallyOf s n a, fun hhigh hlong => ?_,
      fun hlow => ?_⟩
    · have hidle : s.recentlyLow = false := by
        rw [Bool.eq_false_iff, ne_eq, State.recentlyLow_iff]
        simp [hhigh, hlong]
      exact ⟨by simp [State.joinLine, hidle], by simp [State.joinLine, hidle]⟩
    · have hrecent : s.recentlyLow = true := s.recentlyLow_iff.mpr hlow
      exact ⟨by simp [State.joinLine, hrecent], by simp [State.joinLine, hrecent]⟩
  case refused =>
    by_cases hstart : s.station = .starting
    · rw [if_pos hstart]
      exact congrArg Host.Outcome.next (s.atPort_starting _ hport hstart)
    · rw [if_neg hstart]
      exact congrArg Host.Outcome.next ((s.atPort_taken _ hport hstart).trans (if_neg hst))

/-! ## Status reads (R168 to R171) -/

section
variable {s : State} (hs : portTakes s = true)
include hs

theorem exec_readStation : exec .readStation s = .next (s.answering .done (stationRecord s)) :=
  congrArg Host.Outcome.next (State.atPort_of_portTakes _ hs)

theorem exec_readRoster : exec .readRoster s = .next (s.answering .done (rosterRecord s)) :=
  congrArg Host.Outcome.next (State.atPort_of_portTakes _ hs)

theorem exec_readTx (n : Byte) : exec (.readTx n) s = .next
    (match inRange 8 n with | none => s.refuse .badArgument | some i => s.answering .done (txRecord (s.txc i))) :=
  congrArg Host.Outcome.next (State.atPort_of_portTakes _ hs)

theorem exec_readRx (n : Byte) : exec (.readRx n) s = .next
    (match inRange 8 n with
      | none => s.refuse .badArgument
      | some i => s.answering .done (rxRecord (s.rxc i) (s.tallyRow i))) :=
  congrArg Host.Outcome.next (State.atPort_of_portTakes _ hs)

end

theorem stationByte_eq_idxOf {st : StationState} (h : st ≠ .starting) : stationByte st = BitVec.ofNat 8
    ([StationState.starting, .unconfigured, .offline, .listening, .online, .leaving].idxOf st) := by
  cases st
  case starting => exact absurd rfl h
  all_goals rfl

theorem presenceBits_eq_idxOf (p : Presence) : presenceBits p = [Presence.unknown, .present, .absent].idxOf p := by
  cases p <;> rfl

theorem txStateByte_eq_idxOf (st : TxState) :
    txStateByte st = BitVec.ofNat 8 ([TxState.disabled, .idle, .active, .tearing, .halted].idxOf st) := by
  cases st <;> rfl

theorem rxStateByte_eq_idxOf (st : RxState) :
    rxStateByte st = BitVec.ofNat 8 ([RxState.disabled, .idle, .assembling, .discarding, .halted].idxOf st) := by
  cases st <;> rfl

theorem flagByte_isSome {α : Type} [DecidableEq α] (o : Option α) :
    flagByte o.isSome = if o = none then 0x00#8 else 0x01#8 := by
  cases o <;> rfl

theorem flagByte_eq_toNat (b : Bool) : flagByte b = BitVec.ofNat 8 b.toNat := by cases b <;> rfl

/-- The list of the stations has station `a` in place `a`. -/
theorem allStations_map_getD {α : Type} (f : Station → α) (a : Station) (d : α) :
    (allStations.map f).getD a.val d = f a := by
  fin_cases a <;> rfl

theorem doubtOutstanding_toNat (b c : Bool) :
    ((if b = true then 1 else 0) + if c = true then 2 else 0) = b.toNat + 2 * c.toNat := by
  cases b <;> cases c <;> rfl

/-- The fixed part of READ_RX: 15 bytes before the tally row (R171). -/
theorem rxRecord_header (c : RxChan) : ∃ header : List Byte, header.length = 15
    ∧ (∀ row, rxRecord c row = header ++ row.map maybeByte)
    ∧ header = [flagByte c.defn.isSome, rxStateByte c.state, maybeByte c.source] ++ partBytes c.part
      ++ [c.label, byteOf c.idle, flagByte c.progress, byteOf c.drops, byteOf c.abandons] := by
  refine ⟨_, ?_, fun row => rfl, rfl⟩
  cases c.part <;> rfl

/-- Settles O22: the four reads set the answer alone; each record is the model's, with its codes named by their places in
the lists of R196. -/
theorem statusReadsReturnContexts : Obligations.StatusReadsReturnContexts := by
  intro s hs
  have hst : s.station ≠ .starting := by
    intro h
    simp [portTakes, h] at hs
  refine ⟨?station, ⟨_, exec_readRoster hs, rfl, rfl, rfl, fun a => ?roster⟩, fun n hn => ⟨?_, ?_⟩, fun n i hn => ?channel⟩
  case station =>
    rw [exec_readStation hs, ← stationByte_eq_idxOf hst]
    rfl
  case roster =>
    rw [State.sdoByte_answering_succ, rosterRecord, allStations_map_getD, ← presenceBits_eq_idxOf]
    rfl
  · rw [exec_readTx hs, inRange_eq_none hn]; rfl
  · rw [exec_readRx hs, inRange_eq_none hn]; rfl
  case channel =>
    intro ref c r
    have href : ∀ o, ref o = refBytes o := fun o => by cases o <;> rfl
    refine ⟨?tx, ?rx⟩
    case tx =>
      rw [exec_readTx hs, inRange_eq_some hn, ← txStateByte_eq_idxOf, ← flagByte_isSome, href, href,
        ← doubtOutstanding_toNat]
      rfl
    case rx =>
      rw [exec_readRx hs, inRange_eq_some hn]
      obtain ⟨header, hlen, hrow, hheader⟩ := rxRecord_header (s.rxc i)
      refine ⟨_, rfl, rfl, ?_, ?_, fun a => ?_⟩
      · change (statusByte .done :: rxRecord (s.rxc i) (s.tallyRow i)).length = 32
        rw [hrow, List.length_cons, List.length_append, hlen, List.length_map]
        rfl
      · change (statusByte .done :: rxRecord (s.rxc i) (s.tallyRow i)).take 16 = _
        rw [hrow, List.take_succ_cons, List.take_left' hlen, hheader, flagByte_isSome, rxStateByte_eq_idxOf,
          flagByte_eq_toNat]
        simp only [href, r]
        cases (s.rxc i).source <;> cases (s.rxc i).part <;> rfl
      · rw [show 16 + a.val = 1 + (15 + a.val) by omega, State.sdoByte_answering_succ, hrow,
          List.getD_append_right _ _ _ _ (by omega), hlen, show 15 + a.val - 15 = a.val by omega, State.tallyRow,
          List.map_map, allStations_map_getD]
        change maybeByte (s.tallyOf i a) = _
        cases s.tallyOf i a <;> rfl

/-! ## READ_COUNTERS and READ_EVENTS (R161, R165) -/

/-- All counters 0, and nothing else changed (R165). -/
theorem clearCounters_spec (s : State) :
    s.clearCounters = { s with counters := Counters.zero, rx := s.clearCounters.rx }
    ∧ ∀ n, s.clearCounters.rxc n = { s.rxc n with drops := 0, abandons := 0 } := by
  obtain ⟨hframe, hrxc⟩ := foldl_setRx RxChan.countersCleared (fun t n => t.setRx n (t.rxc n).countersCleared)
    allChans_nodup { s with counters := Counters.zero } fun _ _ _ _ => rfl
  exact ⟨hframe, fun n => (hrxc n).trans (if_pos (mem_allChans n))⟩

theorem counterRecord_channel (s : State) (n : ChanId) :
    (counterRecord s).getD (14 + 2 * n.val) 0 = BitVec.ofNat 8 (s.rxc n).drops
    ∧ (counterRecord s).getD (15 + 2 * n.val) 0 = BitVec.ofNat 8 (s.rxc n).abandons := by
  fin_cases n <;> exact ⟨rfl, rfl⟩

theorem exec_readCounters {s : State} (hs : portTakes s = true) (option : Byte) :
    exec (.readCounters option) s = .next
      (if option = 0x00#8 then s.answering .done (counterRecord s)
       else if option = 0x01#8 then s.clearCounters.answering .done (counterRecord s)
       else s.refuse .badArgument) :=
  congrArg Host.Outcome.next (State.atPort_of_portTakes _ hs)

/-- The bytes of a READ_COUNTERS answer do not depend on what it clears. -/
theorem counterAnswer (s u : State) :
    (u.answering .done (counterRecord s)).answer.length = 31
    ∧ (let k := s.counters
       let w : Nat → List Byte := fun v => [BitVec.ofNat 8 (v / 256), BitVec.ofNat 8 v]
       (u.answering .done (counterRecord s)).answer.take 15 = 0xA0#8 :: (w k.dataSent ++ w k.passSent ++ w k.replySent
         ++ w k.invalidHeard ++ w k.slips ++ w k.collisions ++ w k.unanswered))
    ∧ ∀ n : ChanId, (u.answering .done (counterRecord s)).sdoByte (15 + 2 * n.val) = BitVec.ofNat 8 (s.rxc n).drops
      ∧ (u.answering .done (counterRecord s)).sdoByte (16 + 2 * n.val) = BitVec.ofNat 8 (s.rxc n).abandons := by
  refine ⟨rfl, rfl, fun n => ?_⟩
  rw [show 15 + 2 * n.val = 1 + (14 + 2 * n.val) by omega, show 16 + 2 * n.val = 1 + (15 + 2 * n.val) by omega,
    State.sdoByte_answering_succ, State.sdoByte_answering_succ]
  exact counterRecord_channel s n

theorem eventByte_eq (e : Events) : eventByte e = BitVec.ofNat 8 (e.fault.toNat + 2 * e.noMarker.toNat + 4 * e.slip.toNat
    + 8 * e.abandon.toNat + 16 * e.drop.toNat + 32 * e.malformed.toNat) := by
  have hbit : ∀ (b : Bool) (k : Nat), (if b = true then k else 0) = k * b.toNat := fun b k => by cases b <;> simp
  simp only [eventByte, byteOf, hbit, Nat.one_mul]

/-- Settles O23: the answer is the same record with either option (`counterAnswer`); only 01h clears (`clearCounters_spec`). -/
theorem countersAndEventsReadAndCleared : Obligations.CountersAndEventsReadAndCleared := by
  intro s hs
  refine ⟨fun option h0 h1 => ?bad, fun option hoption => ?counters, ?events⟩
  case bad =>
    rw [exec_readCounters hs, if_neg h0, if_neg h1]
    rfl
  case counters =>
    obtain rfl | rfl := hoption
    · obtain ⟨hlen, hstation, hchannel⟩ := counterAnswer s s
      rw [exec_readCounters hs, if_pos rfl]
      exact ⟨_, rfl, rfl, hlen, hstation, hchannel, fun _ => ⟨rfl, fun _ => rfl⟩, fun h => absurd h (by decide)⟩
    · obtain ⟨hframe, hrxc⟩ := clearCounters_spec s
      rw [exec_readCounters hs, if_neg (by decide), if_pos rfl]
      generalize s.clearCounters = u at hframe hrxc ⊢
      obtain ⟨hlen, hstation, hchannel⟩ := counterAnswer s u
      refine ⟨u.answering .done (counterRecord s), rfl, ?_, hlen, hstation, hchannel, fun h => absurd h (by decide),
        fun _ => ⟨?_, hrxc⟩⟩
      · rw [hframe]; rfl
      · rw [hframe]; rfl
  case events =>
    rw [← eventByte_eq]
    exact congrArg Host.Outcome.next (State.atPort_of_portTakes _ hs)

/-! ## Plain line events (R47, R52, R56, R71, R72) -/

theorem State.lineInUse_iff (s : State) :
    s.lineInUse = true ↔ s.station = .listening ∨ s.station = .online ∨ s.station = .leaving := by
  simp only [State.lineInUse, Bool.or_eq_true, beq_iff_eq, or_assoc]

/-- Settles O25: each event is one `if` or `match` on the state, decided by the hypothesis of its clause. -/
theorem frameStartsAndSkips : Obligations.FrameStartsAndSkips := by
  refine fun s => ⟨fun hst hline => ?start, fun h1 h2 h3 => ?noStart, fun h cause hline hrequest hcause => ?skip,
    fun hst stays => ?held⟩
  case start => exact congrArg Host.Outcome.next (if_pos ⟨s.lineInUse_iff.mpr hst, hline⟩)
  case noStart =>
    exact congrArg Host.Outcome.next (if_neg fun hin => by simpa [h1, h2, h3] using s.lineInUse_iff.mp hin.1)
  case skip =>
    change execEntryToSkipping cause s = _
    rw [execEntryToSkipping, hline]
    exact congrArg Host.Outcome.next (if_pos ⟨hcause, hrequest⟩)
  case held =>
    have hnot : ¬ s.lineInUse = true := by
      rw [s.lineInUse_iff]
      rcases hst with hst | hst <;> simp [hst]
    exact congrArg Host.Outcome.next (if_neg hnot)

theorem State.canExpire_iff (s : State) (m : Timer) :
    s.canExpire m = true ↔ s.lineInUse = true ∧ (s.line = .quiet ∧ s.request = none) ∧ s.turn.timer = m := by
  simp only [State.canExpire, State.silentLine, Bool.and_eq_true, beq_iff_eq, and_assoc]

/-- Settles O43: on a silent line of a LISTENING station the expiry can arise, and it is `withTimer` or `claim`. -/
theorem listenThenClaim : Obligations.ListenThenClaim := by
  intro s hst hline hrequest
  have huse : s.lineInUse = true := s.lineInUse_iff.mpr (.inl hst)
  exact ⟨fun htimer => congrArg Host.Outcome.next (if_pos ((s.canExpire_iff _).mpr ⟨huse, ⟨hline, hrequest⟩, htimer⟩)),
    fun htimer => congrArg Host.Outcome.next (if_pos ((s.canExpire_iff _).mpr ⟨huse, ⟨hline, hrequest⟩, htimer⟩))⟩

/-! ## The invariants at reset -/

theorem reset_txc (n : ChanId) : State.reset.txc n = TxChan.reset := look_filled _ n

theorem reset_rxc (n : ChanId) : State.reset.rxc n = RxChan.reset := look_filled _ n

theorem reset_desc (d : DescId) : State.reset.desc d = Desc.reset := look_filled _ d

theorem reset_queue (q : QueueId) : State.reset.queue q = [] := look_filled _ q

theorem reset_rosterOf (a : Station) : State.reset.rosterOf a = RosterEntry.reset := look_filled _ a

theorem rxContextSound_reset : RxContextSound RxChan.reset := by
  refine ⟨by simp [RxChan.reset], rfl, nofun, fun h => absurd rfl h, nofun, fun _ => rfl⟩

theorem txContextSound_reset : TxContextSound TxChan.reset := by
  simp [TxContextSound, TxChan.reset, Config.attemptsLimit, Config.latersLimit, Config.absenceLimit]

theorem heldChains_reset : heldChains State.reset = [] := by
  simp [heldChains, reset_queue, reset_txc, reset_rxc, TxChan.reset, RxChan.reset]

/-- Settles O56: at reset every channel, descriptor, queue and roster entry holds its one reset value, and no chain is
held. -/
theorem invariantsHoldAtReset : Obligations.InvariantsHoldAtReset := by
  refine ⟨rfl, ?line, ?roster, ?schedule, ?counters, fun d => ?fills, ?receive, fun d hd => ?sizes, ?transmit, ?ownership⟩
  case line =>
    exact ⟨fun _ => ⟨rfl, rfl, rfl, rfl, rfl⟩, nofun, Nat.zero_le _, Nat.zero_le _, nofun⟩
  case roster =>
    exact ⟨fun a => by rw [reset_rosterOf]; decide, reset_rosterOf _⟩
  case schedule => exact ⟨le_refl 1, by decide, Nat.zero_lt_one, fun _ => rfl⟩
  case counters =>
    refine ⟨Nat.zero_le _, Nat.zero_le _, Nat.zero_le _, Nat.zero_le _, Nat.zero_le _, Nat.zero_le _, Nat.zero_le _,
      fun n => ?_⟩
    rw [reset_rxc]
    exact ⟨Nat.zero_le _, Nat.zero_le _⟩
  case fills =>
    rw [reset_desc]
    exact Nat.zero_le _
  case receive => exact ⟨fun n => reset_rxc n ▸ rxContextSound_reset, fun _ n => by rw [reset_rxc]; rfl⟩
  case sizes => rw [reset_desc] at hd; cases hd
  case transmit =>
    have hnone : ∀ n, (State.reset.txc n).outstanding ≠ true := fun n => by simp [reset_txc, TxChan.reset]
    exact ⟨fun n => reset_txc n ▸ txContextSound_reset, fun _ n => by rw [reset_txc]; rfl,
      fun n _ hn => absurd hn (hnone n), fun n hn => absurd hn (hnone n)⟩
  case ownership =>
    rw [OwnershipSound, heldChains_reset]
    refine ⟨nofun, List.nodup_nil, fun d hd => ?_, fun n h d hm => ?_, fun n p hp => ?_⟩
    · rw [reset_desc] at hd; exact absurd rfl hd
    · rw [reset_txc] at hm; cases hm
    · rw [reset_rxc] at hp; cases hp

end Sys2Proof.Machine
end

section
/-! PROOFS. Transactions as bytes (R172 to R176, R180, R193): how many bytes a command needs, what its bytes spell, what SDO
carries. -/

namespace Sys2Proof.Machine

open Sys2Proof.Safety

/-! ## How many argument bytes a command reads (R173) -/

/-- The code is read with exactly its first `n` argument bytes: fewer spell nothing, that many spell a command, more change
nothing. -/
structure ReadsFirst (code : Byte) (n : Nat) : Prop where
  short : ∀ args, args.length < n → decodeArgs code args = none
  enough : ∀ args, n ≤ args.length → decodeArgs code args ≠ none
  long : ∀ args, n ≤ args.length → decodeArgs code args = decodeArgs code (args.take n)

theorem readsFirst_zero {code : Byte} (i : Instr) (h : ∀ args, decodeArgs code args = some i) : ReadsFirst code 0 :=
  ⟨nofun, fun args _ => by simp [h], fun args _ => by simp [h]⟩

theorem readsFirst_one {code : Byte} (i : Byte → Instr) (hnil : decodeArgs code [] = none)
    (h : ∀ a rest, decodeArgs code (a :: rest) = some (i a)) : ReadsFirst code 1 := by
  refine ⟨fun args hlen => ?_, fun args hlen => ?_, fun args hlen => ?_⟩
  · rw [List.length_eq_zero_iff.mp (Nat.lt_one_iff.mp hlen), hnil]
  all_goals
    obtain ⟨a, rest, rfl⟩ := List.exists_cons_of_length_pos hlen
    simp [h]

theorem readsFirst_six {code : Byte} (i : Byte → Byte → Byte → Byte → Byte → Byte → Instr)
    (h0 : decodeArgs code [] = none) (h1 : ∀ a, decodeArgs code [a] = none) (h2 : ∀ a b, decodeArgs code [a, b] = none)
    (h3 : ∀ a b c, decodeArgs code [a, b, c] = none) (h4 : ∀ a b c d, decodeArgs code [a, b, c, d] = none)
    (h5 : ∀ a b c d e, decodeArgs code [a, b, c, d, e] = none)
    (h6 : ∀ a b c d e f rest, decodeArgs code (a :: b :: c :: d :: e :: f :: rest) = some (i a b c d e f)) :
    ReadsFirst code 6 := by
  refine ⟨fun args hlen => ?_, fun args hlen => ?_, fun args hlen => ?_⟩
  · match args, hlen with
    | [], _ => exact h0
    | [a], _ => exact h1 a
    | [a, b], _ => exact h2 a b
    | [a, b, c], _ => exact h3 a b c
    | [a, b, c, d], _ => exact h4 a b c d
    | [a, b, c, d, e], _ => exact h5 a b c d e
  all_goals
    match args, hlen with
    | a :: b :: c :: d :: e :: f :: rest, _ => simp [h6]

theorem readsFirst_defineTx : ReadsFirst 0x11#8 5 := by
  refine ⟨fun args hlen => ?_, fun args hlen => ?_, fun args hlen => ?_⟩
  · match args, hlen with
    | [], _ => rfl
    | [_], _ => rfl
    | [_, _], _ => rfl
    | [_, _, _], _ => rfl
    | [_, _, _, _], _ => rfl
  · match args, hlen with
    | _ :: _ :: _ :: _ :: _ :: _, _ => nofun
  · match args, hlen with
    | _ :: _ :: _ :: _ :: _ :: _, _ => rfl

theorem readsFirst_push : ReadsFirst 0x20#8 2 := by
  refine ⟨fun args hlen => ?_, fun args hlen => ?_, fun args hlen => ?_⟩
  · match args, hlen with
    | [], _ => rfl
    | [_], _ => rfl
  · match args, hlen with
    | _ :: _ :: _, _ => nofun
  · match args, hlen with
    | _ :: _ :: _, _ => rfl

theorem readsFirst_readBuffer : ReadsFirst 0x32#8 3 := by
  refine ⟨fun args hlen => ?_, fun args hlen => ?_, fun args hlen => ?_⟩
  · match args, hlen with
    | [], _ => rfl
    | [_], _ => rfl
    | [_, _], _ => rfl
  · match args, hlen with
    | _ :: _ :: _ :: _, _ => nofun
  · match args, hlen with
    | _ :: _ :: _ :: _, _ => rfl

/-- A command of a fixed number of argument bytes reads just those (R173). -/
theorem readsFirst_of_fixed {code : Byte} {n : Nat} (h : argCount code = some (.fixed n)) : ReadsFirst code n := by
  have hcode : ∀ {v : Nat} {b : Byte}, code.toNat = v → b.toNat = v → code = b := fun hv hb =>
    BitVec.eq_of_toNat_eq (hv.trans hb.symm)
  unfold argCount at h
  split at h
  case h_1 hv =>
    cases h
    exact hcode hv (b := 0x10#8) rfl ▸ readsFirst_six .setLine rfl (fun _ => rfl) (fun _ _ => rfl) (fun _ _ _ => rfl)
      (fun _ _ _ _ => rfl) (fun _ _ _ _ _ => rfl) fun _ _ _ _ _ _ _ => rfl
  case h_2 hv =>
    cases h
    exact hcode hv (b := 0x11#8) rfl ▸ readsFirst_defineTx
  case h_3 hv =>
    cases h
    exact hcode hv (b := 0x12#8) rfl ▸ readsFirst_six .defineRx rfl (fun _ => rfl) (fun _ _ => rfl) (fun _ _ _ => rfl)
      (fun _ _ _ _ => rfl) (fun _ _ _ _ _ => rfl) fun _ _ _ _ _ _ _ => rfl
  case h_4 => cases h
  case h_5 hv =>
    cases h
    exact hcode hv (b := 0x14#8) rfl ▸ readsFirst_zero .fix fun _ => rfl
  case h_6 hv =>
    cases h
    exact hcode hv (b := 0x20#8) rfl ▸ readsFirst_push
  case h_7 hv =>
    cases h
    exact hcode hv (b := 0x21#8) rfl ▸ readsFirst_one .pop rfl fun _ _ => rfl
  case h_8 hv =>
    cases h
    exact hcode hv (b := 0x22#8) rfl ▸ readsFirst_one .queueStatus rfl fun _ _ => rfl
  case h_9 hv =>
    cases h
    exact hcode hv (b := 0x30#8) rfl ▸ readsFirst_one .readDesc rfl fun _ _ => rfl
  case h_10 hv =>
    cases h
    exact hcode hv (b := 0x31#8) rfl ▸ readsFirst_six .writeDesc rfl (fun _ => rfl) (fun _ _ => rfl) (fun _ _ _ => rfl)
      (fun _ _ _ _ => rfl) (fun _ _ _ _ _ => rfl) fun _ _ _ _ _ _ _ => rfl
  case h_11 hv =>
    cases h
    exact hcode hv (b := 0x32#8) rfl ▸ readsFirst_readBuffer
  case h_12 => cases h
  case h_13 hv =>
    cases h
    exact hcode hv (b := 0x40#8) rfl ▸ readsFirst_zero .join fun _ => rfl
  case h_14 hv =>
    cases h
    exact hcode hv (b := 0x41#8) rfl ▸ readsFirst_zero .leave fun _ => rfl
  case h_15 hv =>
    cases h
    exact hcode hv (b := 0x50#8) rfl ▸ readsFirst_one .enableTx rfl fun _ _ => rfl
  case h_16 hv =>
    cases h
    exact hcode hv (b := 0x51#8) rfl ▸ readsFirst_one .clearTx rfl fun _ _ => rfl
  case h_17 hv =>
    cases h
    exact hcode hv (b := 0x52#8) rfl ▸ readsFirst_one .teardownTx rfl fun _ _ => rfl
  case h_18 hv =>
    cases h
    exact hcode hv (b := 0x58#8) rfl ▸ readsFirst_one .enableRx rfl fun _ _ => rfl
  case h_19 hv =>
    cases h
    exact hcode hv (b := 0x59#8) rfl ▸ readsFirst_one .haltRx rfl fun _ _ => rfl
  case h_20 hv =>
    cases h
    exact hcode hv (b := 0x5A#8) rfl ▸ readsFirst_one .clearRx rfl fun _ _ => rfl
  case h_21 hv =>
    cases h
    exact hcode hv (b := 0x5B#8) rfl ▸ readsFirst_one .teardownRx rfl fun _ _ => rfl
  case h_22 hv =>
    cases h
    exact hcode hv (b := 0x60#8) rfl ▸ readsFirst_zero .readStation fun _ => rfl
  case h_23 hv =>
    cases h
    exact hcode hv (b := 0x61#8) rfl ▸ readsFirst_zero .readRoster fun _ => rfl
  case h_24 hv =>
    cases h
    exact hcode hv (b := 0x62#8) rfl ▸ readsFirst_one .readTx rfl fun _ _ => rfl
  case h_25 hv =>
    cases h
    exact hcode hv (b := 0x63#8) rfl ▸ readsFirst_one .readRx rfl fun _ _ => rfl
  case h_26 hv =>
    cases h
    exact hcode hv (b := 0x64#8) rfl ▸ readsFirst_one .readCounters rfl fun _ _ => rfl
  case h_27 hv =>
    cases h
    exact hcode hv (b := 0x65#8) rfl ▸ readsFirst_zero .readEvents fun _ => rfl
  case h_28 hv =>
    cases h
    exact hcode hv (b := 0x7E#8) rfl ▸ readsFirst_zero .restart fun _ => rfl
  case h_29 => cases h

/-- The two commands whose last fixed argument byte announces further bytes (R21, R185). -/
theorem argCount_counted {code : Byte} {n limit : Nat} (h : argCount code = some (.counted n limit)) :
    code = 0x13#8 ∧ n = 1 ∧ limit = 32 ∨ code = 0x33#8 ∧ n = 3 ∧ limit = 64 := by
  unfold argCount at h
  split at h
  case h_4 hv =>
    cases h
    exact .inl ⟨BitVec.eq_of_toNat_eq hv, rfl, rfl⟩
  case h_12 hv =>
    cases h
    exact .inr ⟨BitVec.eq_of_toNat_eq hv, rfl, rfl⟩
  all_goals cases h

theorem decodeArgs_schedule (len : Byte) (entries : List Byte) : decodeArgs 0x13#8 (len :: entries) =
    if announced 32 len ≤ entries.length then some (.defineSchedule len (entries.take (announced 32 len))) else none := rfl

theorem decodeArgs_writeBuffer (d o count : Byte) (data : List Byte) : decodeArgs 0x33#8 (d :: o :: count :: data) =
    if announced 64 count ≤ data.length then some (.writeBuffer d o count (data.take (announced 64 count))) else none := rfl

/-- With fewer argument bytes than it needs a known code spells nothing (R173, R175). -/
theorem decodeArgs_short {code : Byte} {args : List Byte} {k : Nat} (hk : argsNeeded code args = some k)
    (hlen : args.length < k) : decodeArgs code args = none := by
  unfold argsNeeded at hk
  split at hk
  · cases hk
  · next n hn =>
    cases hk
    exact (readsFirst_of_fixed hn).short args hlen
  · next n limit hn =>
    obtain ⟨rfl, rfl, rfl⟩ | ⟨rfl, rfl, rfl⟩ := argCount_counted hn
    · match args with
      | [] => rfl
      | len :: entries =>
        obtain rfl := Option.some.inj hk
        have hshort : entries.length < announced 32 len := by simpa [Nat.add_comm] using hlen
        rw [decodeArgs_schedule, if_neg (Nat.not_le.mpr hshort)]
    · match args with
      | [] => rfl
      | [_] => rfl
      | [_, _] => rfl
      | d :: o :: count :: data =>
        obtain rfl := Option.some.inj hk
        have hshort : data.length < announced 64 count := by
          change data.length + 3 < 3 + announced 64 count at hlen
          omega
        rw [decodeArgs_writeBuffer, if_neg (Nat.not_le.mpr hshort)]

/-- Bytes past those a known code needs change nothing (R172). -/
theorem decodeArgs_append {code : Byte} {args : List Byte} {k : Nat} (hk : argsNeeded code args = some k)
    (hlen : k ≤ args.length) (more : List Byte) : decodeArgs code (args ++ more) = decodeArgs code args := by
  unfold argsNeeded at hk
  split at hk
  · cases hk
  · next n hn =>
    cases hk
    have hreads := readsFirst_of_fixed hn
    rw [hreads.long args hlen, hreads.long (args ++ more) (by rw [List.length_append]; omega),
      List.take_append_of_le_length hlen]
  · next n limit hn =>
    obtain ⟨rfl, rfl, rfl⟩ | ⟨rfl, rfl, rfl⟩ := argCount_counted hn
    · match args with
      | [] => cases hk; cases hlen
      | len :: entries =>
        obtain rfl := Option.some.inj hk
        have henough : announced 32 len ≤ entries.length := by simpa [Nat.add_comm] using hlen
        rw [List.cons_append, decodeArgs_schedule, decodeArgs_schedule, if_pos henough,
          if_pos (by rw [List.length_append]; omega), List.take_append_of_le_length henough]
    · match args with
      | [] => cases hk; cases hlen
      | [_] => cases hk; simp at hlen
      | [_, _] => cases hk; simp at hlen
      | d :: o :: count :: data =>
        obtain rfl := Option.some.inj hk
        have henough : announced 64 count ≤ data.length := by
          change 3 + announced 64 count ≤ data.length + 3 at hlen
          omega
        rw [List.cons_append, List.cons_append, List.cons_append, decodeArgs_writeBuffer, decodeArgs_writeBuffer,
          if_pos henough, if_pos (by rw [List.length_append]; omega), List.take_append_of_le_length henough]

/-- With the bytes it needs a known code spells a command (R173). -/
theorem decodeArgs_enough {code : Byte} {args : List Byte} {k : Nat} (hk : argsNeeded code args = some k)
    (hlen : k ≤ args.length) : decodeArgs code args ≠ none := by
  unfold argsNeeded at hk
  split at hk
  · cases hk
  · next n hn =>
    cases hk
    exact (readsFirst_of_fixed hn).enough args hlen
  · next n limit hn =>
    obtain ⟨rfl, rfl, rfl⟩ | ⟨rfl, rfl, rfl⟩ := argCount_counted hn
    · match args with
      | [] => cases hk; cases hlen
      | len :: entries =>
        obtain rfl := Option.some.inj hk
        have henough : announced 32 len ≤ entries.length := by simpa [Nat.add_comm] using hlen
        rw [decodeArgs_schedule, if_pos henough]
        nofun
    · match args with
      | [] => cases hk; cases hlen
      | [_] => cases hk; simp at hlen
      | [_, _] => cases hk; simp at hlen
      | d :: o :: count :: data =>
        obtain rfl := Option.some.inj hk
        have henough : announced 64 count ≤ data.length := by
          change 3 + announced 64 count ≤ data.length + 3 at hlen
          omega
        rw [decodeArgs_writeBuffer, if_pos henough]
        nofun

theorem argsNeeded_eq_none_iff {code : Byte} {args : List Byte} :
    argsNeeded code args = none ↔ isCommandCode code = false := by
  unfold argsNeeded isCommandCode
  cases argCount code with
  | none => simp
  | some k => cases k <;> simp

/-! ## What a transaction's bytes spell (R172, R173, R193) -/

theorem decodeTransaction_unknown {code : Byte} (h : isCommandCode code = false) (args : List Byte) :
    decodeTransaction (code :: args) = .unknownCommand code := by
  simp [decodeTransaction, h]

theorem decodeTransaction_known {code : Byte} (h : isCommandCode code = true) (args : List Byte) :
    decodeTransaction (code :: args) = (decodeArgs code args).getD (.transactionAbort (code :: args)) := by
  rw [decodeTransaction, if_pos h]
  cases decodeArgs code args <;> rfl

theorem isCommandCode_of_argsNeeded {code : Byte} {args : List Byte} {k : Nat} (h : argsNeeded code args = some k) :
    isCommandCode code = true := by
  rw [← Bool.not_eq_false, ← argsNeeded_eq_none_iff (args := args), h]
  nofun

theorem commandTaken_of_needed {code : Byte} {args : List Byte} {k : Nat} (h : argsNeeded code args = some k) :
    commandTaken (code :: args) = decide (k ≤ args.length) := by
  simp only [commandTaken, h]

theorem decodeTransaction_notTaken {bytes : List Byte} (h : commandTaken bytes = false) :
    decodeTransaction bytes = .transactionAbort bytes := by
  match bytes with
  | [] => rfl
  | code :: args =>
    cases hk : argsNeeded code args with
    | none => simp [commandTaken, hk] at h
    | some k =>
      rw [commandTaken_of_needed hk, decide_eq_false_iff_not, Nat.not_le] at h
      rw [decodeTransaction_known (isCommandCode_of_argsNeeded hk), decodeArgs_short hk h]
      rfl

/-- A taken command stays the same command whatever is clocked in later. -/
theorem decodeTransaction_append {bytes : List Byte} (h : commandTaken bytes = true) (more : List Byte) :
    decodeTransaction (bytes ++ more) = decodeTransaction bytes := by
  match bytes with
  | [] => cases h
  | code :: args =>
    rw [List.cons_append]
    cases hk : argsNeeded code args with
    | none =>
      have hunknown := argsNeeded_eq_none_iff.mp hk
      rw [decodeTransaction_unknown hunknown, decodeTransaction_unknown hunknown]
    | some k =>
      rw [commandTaken_of_needed hk, decide_eq_true_eq] at h
      have hknown := isCommandCode_of_argsNeeded hk
      obtain ⟨i, hi⟩ := Option.ne_none_iff_exists'.mp (decodeArgs_enough hk h)
      rw [decodeTransaction_known hknown, decodeTransaction_known hknown, decodeArgs_append hk h, hi]
      rfl

/-- Settles O57: each command's bytes are read back by their own equation of `decodeArgs`; a transaction cut short spells
nothing (`decodeArgs_short`), and bytes past the last argument are not read (`decodeArgs_append`). -/
theorem transactionBytesRoundTrip : Obligations.TransactionBytesRoundTrip := by
  refine ⟨fun c bytes hwf hencode => ?spells, fun bytes more htaken => decodeTransaction_append htaken more⟩
  case spells =>
    cases c with
    | unknownCommand code =>
      cases hencode
      exact decodeTransaction_unknown (by simpa [wellFormed] using hwf) []
    | transactionAbort bytes =>
      cases hencode
      exact decodeTransaction_notTaken (by simpa [wellFormed] using hwf)
    | defineSchedule len entries =>
      cases hencode
      have hlen : entries.length = announced 32 len := by simpa [wellFormed] using hwf
      rw [decodeTransaction_known rfl, decodeArgs_schedule, if_pos hlen.ge, ← hlen, List.take_length]
      rfl
    | writeBuffer d o count data =>
      cases hencode
      have hlen : data.length = announced 64 count := by simpa [wellFormed] using hwf
      rw [decodeTransaction_known rfl, decodeArgs_writeBuffer, if_pos hlen.ge, ← hlen, List.take_length]
      rfl
    | _ => cases hencode <;> rfl

/-! ## What SDO carries (R172, R174) -/

/-- The bytes of a host command end with the byte at which it is taken, whatever is clocked in later (R173, R176). -/
theorem takenAfter_encoded {c : Instr} {bytes : List Byte} (hc : isHostCommand c = true) (hwf : wellFormed c = true)
    (hencode : encodeTransaction c = some bytes) (more : List Byte) :
    takenAfter (bytes ++ more) = some bytes.length := by
  have hneeds : ∀ {code : Byte} {args : List Byte}, argsNeeded code (args ++ more) = some args.length →
      takenAfter ((code :: args) ++ more) = some (code :: args).length := fun {code args} h => by
    simp only [List.cons_append, takenAfter, h, List.length_append, List.length_cons]
    rw [if_pos (Nat.le_add_right _ _)]
  cases c with
  | unknownCommand code =>
    cases hencode
    have hunknown : isCommandCode code = false := by simpa [wellFormed] using hwf
    simp only [List.cons_append, takenAfter, argsNeeded_eq_none_iff.mpr hunknown, List.length_cons, List.length_nil]
  | defineSchedule len entries =>
    cases hencode
    have hlen : entries.length = announced 32 len := by simpa [wellFormed] using hwf
    refine hneeds ?_
    rw [List.length_cons, hlen, Nat.add_comm]
    rfl
  | writeBuffer d o count data =>
    cases hencode
    have hlen : data.length = announced 64 count := by simpa [wellFormed] using hwf
    refine hneeds ?_
    rw [List.length_cons, List.length_cons, List.length_cons, hlen, Nat.add_assoc, Nat.add_assoc, Nat.add_comm]
    rfl
  | transactionAbort => cases hc
  | _ => cases hencode <;> exact hneeds rfl

theorem takenAfter_eq_none {bytes : List Byte} (h : commandTaken bytes = false) : takenAfter bytes = none := by
  match bytes with
  | [] => rfl
  | code :: args =>
    cases hk : argsNeeded code args with
    | none => simp [commandTaken, hk] at h
    | some k =>
      rw [commandTaken_of_needed hk, decide_eq_false_iff_not] at h
      simp only [takenAfter, hk, if_neg h]

/-- The command codes are those of the table at the head of chapter 9. -/
theorem isCommandCode_iff (code : Byte) : isCommandCode code = true ↔
    code.toNat ∈ [0x10, 0x11, 0x12, 0x13, 0x14, 0x20, 0x21, 0x22, 0x30, 0x31, 0x32, 0x33, 0x40, 0x41, 0x50, 0x51,
      0x52, 0x58, 0x59, 0x5A, 0x5B, 0x60, 0x61, 0x62, 0x63, 0x64, 0x65, 0x7E] := by
  unfold isCommandCode argCount
  split
  case h_29 =>
    simp only [Option.isSome_none, Bool.false_eq_true, List.mem_cons, List.not_mem_nil, or_false, false_iff, not_or]
    refine ⟨?_, ?_, ?_, ?_, ?_, ?_, ?_, ?_, ?_, ?_, ?_, ?_, ?_, ?_, ?_, ?_, ?_, ?_, ?_, ?_, ?_, ?_, ?_, ?_, ?_, ?_, ?_, ?_⟩
    all_goals assumption
  all_goals
    next hcode =>
    rw [hcode]
    decide

/-- Settles O24: every host command stands at the port, which ignores it after a hard reset with CS# low; SDO counts from
the byte at which the command was taken (`takenAfter_encoded`). -/
theorem transactionsWithoutEffect : Obligations.TransactionsWithoutEffect := by
  refine ⟨fun code s hport hcode => ?unknown, fun _ _ => rfl, fun c s hc hwf hskips => ?ignored, isCommandCode_iff,
    fun _ => rfl, fun s hport => ⟨fun bytes htaken => ?before, fun c bytes more hc hwf hencode => ?after⟩⟩
  case unknown =>
    refine congrArg Host.Outcome.next ((if_neg (by simp [hcode])).trans ?_)
    by_cases hst : s.station = .starting
    · rw [s.atPort_starting _ hport hst, if_pos hst]
      rfl
    · rw [s.atPort_taken _ hport hst, if_neg hst]
      rfl
  case ignored =>
    obtain ⟨act, hexec, -⟩ := exec_host_atPort hc hwf s
    rw [hexec, s.atPort_skips act hskips]
    rfl
  case before =>
    simp only [State.sdo, hport, Bool.false_eq_true, if_false, takenAfter_eq_none htaken]
  case after =>
    simp only [State.sdo, hport, Bool.false_eq_true, if_false, takenAfter_encoded hc hwf hencode, State.sdoByte,
      List.length_append, Nat.add_sub_cancel_left]
    rfl

end Sys2Proof.Machine
end

section
/-! PROOFS. Frames as bytes (R42 to R47, R191, R192): what is sent is read back, and the check sequence sees a changed byte. -/

namespace Sys2Proof.Machine

open Sys2Proof.Safety

/-! ## Fields read back (R191, R192) -/

theorem nibbleOf_nibbleByte (s : Fin 16) : nibbleOf (nibbleByte s) = s := by revert s; decide

theorem channelOf_channelByte (n : ChanId) : channelOf (channelByte n) = n := by revert n; decide

/-- Byte 4 of a DATA frame gives back its tally and its two flags. -/
theorem flagsByte_fields (t : Tally) (first last : Bool) : nibbleOf (flagsByte t first last) = t
    ∧ firstOf (flagsByte t first last) = first ∧ lastOf (flagsByte t first last) = last := by
  revert t first last
  decide

theorem replyCodeOf_replyCodeByte (c : ReplyCode) : replyCodeOf (replyCodeByte c) = some c := by cases c <;> rfl

/-- The fields of a frame are read back from its bytes. -/
theorem readFields_frameFields (f : Frame) : readFields (frameFields f) = some f := by
  cases f with
  | pass s => simp only [frameFields, readFields, if_true, nibbleOf_nibbleByte]
  | reply r =>
    simp only [frameFields, readFields, show replyKind ≠ dataKind by decide, if_false, if_true, replyCodeOf_replyCodeByte,
      Option.map_some, nibbleOf_nibbleByte, channelOf_channelByte]
  | data f =>
    obtain ⟨htally, hfirst, hlast⟩ := flagsByte_fields f.tally f.first f.last
    obtain ⟨src, dst, ch, tally, label, last, payload⟩ := f
    cases label with
    | none =>
      simp only [DataFrame.first, Option.isSome_none] at htally hfirst hlast
      simp only [frameFields, labelBytes, DataFrame.first, Option.isSome_none, List.append_nil, List.cons_append,
        List.nil_append, readFields, if_true, hfirst, hlast, htally, nibbleOf_nibbleByte, channelOf_channelByte,
        Bool.false_eq_true, if_false]
    | some l =>
      simp only [DataFrame.first, Option.isSome_some] at htally hfirst hlast
      simp only [frameFields, labelBytes, DataFrame.first, Option.isSome_some, List.cons_append, List.nil_append,
        readFields, if_true, hfirst, hlast, htally, nibbleOf_nibbleByte, channelOf_channelByte]

theorem crcBytes_length (bytes : List Byte) : (crcBytes bytes).length = 2 := rfl

theorem encodeFrame_length (f : Frame) : (encodeFrame f).length = (frameFields f).length + 2 := by
  rw [encodeFrame, List.length_append, crcBytes_length]

theorem beforeCrc_encodeFrame (f : Frame) : beforeCrc (encodeFrame f) = frameFields f := by
  rw [beforeCrc, encodeFrame_length, Nat.add_sub_cancel, encodeFrame, List.take_left]

theorem crcMatches_encodeFrame (f : Frame) : crcMatches (encodeFrame f) = true := by
  rw [crcMatches, beforeCrc_encodeFrame, encodeFrame_length, Nat.add_sub_cancel, encodeFrame, List.drop_left]
  exact beq_self_eq_true _

/-- A frame's fields give its byte count: 4 for PASS, 8 for REPLY, 8 and the payload and label for DATA (R47). -/
theorem expectedCount_encodeFrame (f : Frame) (hf : ∀ g, f = .data g → g.payload.length ≤ 64) :
    expectedCount (encodeFrame f) = some (encodeFrame f).length := by
  cases f with
  | pass s => rfl
  | reply r => rfl
  | data f =>
    have hpayload := hf f rfl
    have hlen : (BitVec.ofNat 8 f.payload.length).toNat = f.payload.length := by
      rw [BitVec.toNat_ofNat]
      exact Nat.mod_eq_of_lt (by omega)
    obtain ⟨-, hfirst, -⟩ := flagsByte_fields f.tally f.first f.last
    have hbytes : encodeFrame (.data f) = dataKind :: nibbleByte f.source :: nibbleByte f.destination ::
        channelByte f.channel :: flagsByte f.tally f.first f.last :: BitVec.ofNat 8 f.payload.length ::
        (labelBytes f.label ++ f.payload ++ crcBytes (frameFields (.data f))) := by
      simp only [encodeFrame, frameFields, List.cons_append, List.nil_append, List.append_assoc]
    rw [hbytes]
    simp only [expectedCount, show dataKind ≠ passKind by decide, show dataKind ≠ replyKind by decide, if_false, if_true,
      hlen, hfirst, Config.bufferSize, hpayload, List.length_cons, List.length_append, crcBytes_length]
    cases hlabel : f.label <;> simp [DataFrame.first, hlabel, labelBytes] <;> omega

/-- Settles O58: the byte count, the check sequence and the fields of an encoded frame are each its own. -/
theorem frameBytesRoundTrip : Obligations.FrameBytesRoundTrip := by
  intro f hf
  have hcount := expectedCount_encodeFrame f hf
  refine ⟨?_, hcount⟩
  rw [decodeFrame, frameComplete, hcount, crcMatches_encodeFrame, beforeCrc_encodeFrame]
  simp only [beq_self_eq_true, Bool.and_self, if_true]
  exact readFields_frameFields f

/-! ## The check sequence (R46) -/

theorem xor_injective_left (c : BitVec 16) : Function.Injective (· ^^^ c) := fun a b h => by
  simpa [BitVec.xor_assoc] using congrArg (· ^^^ c) h

theorem xor_injective_right (c : BitVec 16) : Function.Injective (c ^^^ ·) := fun a b h => by
  simpa [← BitVec.xor_assoc] using congrArg (c ^^^ ·) h

/-- A shift of the CRC register moves bit 15 to bit 0, and can be undone. -/
theorem crcShift_injective : Function.Injective crcShift := by
  intro a b h
  have hbit : ∀ r : BitVec 16, (crcShift r).getLsbD 0 = r.getLsbD 15 := by
    intro r
    unfold crcShift
    split
    · next h15 => rw [h15]; simp
    · next h15 => simpa using h15
  have h15 : a.getLsbD 15 = b.getLsbD 15 := by rw [← hbit, ← hbit, h]
  have hshift : a <<< 1 = b <<< 1 := by
    unfold crcShift at h
    rw [h15] at h
    split at h
    · exact xor_injective_left _ h
    · exact h
  refine BitVec.eq_of_getLsbD_eq fun i hi => ?_
  by_cases hlast : i = 15
  · rw [hlast, h15]
  · have hi1 := congrArg (fun r : BitVec 16 => r.getLsbD (i + 1)) hshift
    simpa only [BitVec.getLsbD_shiftLeft, show i + 1 < 16 by omega, decide_true, Bool.true_and, Nat.lt_one_iff,
      Nat.succ_ne_zero, decide_false, Bool.not_false, Nat.add_sub_cancel] using hi1

theorem crcByte_injective_left (b : Byte) : Function.Injective fun r => crcByte r b := by
  intro r r' h
  simp only [crcByte, crcShift_injective.eq_iff] at h
  exact xor_injective_left _ h

theorem crcByte_injective_right (r : BitVec 16) : Function.Injective (crcByte r) := by
  intro b b' h
  simp only [crcByte, crcShift_injective.eq_iff] at h
  have hshift := xor_injective_right _ h
  refine BitVec.eq_of_getLsbD_eq fun i hi => ?_
  have hi8 := congrArg (fun r : BitVec 16 => r.getLsbD (i + 8)) hshift
  simpa [show i + 8 < 16 by omega, hi] using hi8

theorem crcFrom_injective (bytes : List Byte) : Function.Injective fun r => bytes.foldl crcByte r := by
  induction bytes with
  | nil => exact fun _ _ h => h
  | cons b bytes ih => exact ih.comp (crcByte_injective_left b)

/-- The CRC tells any bytes from those with one byte changed. -/
theorem crc_set_ne {bytes : List Byte} {i : Nat} {b : Byte} (hi : i < bytes.length) (hb : bytes.getD i 0 ≠ b) :
    crc (bytes.set i b) ≠ crc bytes := by
  intro h
  rw [List.getD_eq_getElem _ _ hi] at hb
  rw [crc, crc, List.set_eq_take_append_cons_drop, if_pos hi] at h
  conv at h => rhs; rw [← List.take_append_drop i bytes, List.drop_eq_getElem_cons hi]
  rw [List.foldl_append, List.foldl_append, List.foldl_cons, List.foldl_cons] at h
  exact hb (crcByte_injective_right _ (crcFrom_injective _ h)).symm

/-- The two CRC bytes hold the whole CRC. -/
theorem crcBytes_inj {a b : List Byte} (h : crcBytes a = crcBytes b) : crc a = crc b := by
  simp only [crcBytes, List.cons.injEq, and_true] at h
  obtain ⟨hhigh, hlow⟩ := h
  refine BitVec.eq_of_getLsbD_eq fun i hi => ?_
  by_cases h8 : i < 8
  · have := congrArg (fun r : Byte => r.getLsbD i) hlow
    simpa [h8] using this
  · have := congrArg (fun r : Byte => r.getLsbD (i - 8)) hhigh
    simpa [show i - 8 < 8 by omega, show 8 + (i - 8) = i by omega] using this

/-- Settles O59: a changed byte before the CRC changes the computed CRC (`crc_set_ne`), one of the CRC bytes the received. -/
theorem checkSequenceSeesChangedByte : Obligations.CheckSequenceSeesChangedByte := by
  intro bytes i b hmatch hi hb
  have hcrc : bytes.drop (bytes.length - 2) = crcBytes (beforeCrc bytes) := by simpa [crcMatches] using hmatch
  refine Bool.eq_false_iff.mpr fun hchanged => ?_
  have hcrc' : (bytes.set i b).drop (bytes.length - 2) = crcBytes (beforeCrc (bytes.set i b)) := by
    simpa [crcMatches] using hchanged
  by_cases hfield : i < bytes.length - 2
  · have hbefore : beforeCrc (bytes.set i b) = (beforeCrc bytes).set i b := by
      rw [beforeCrc, beforeCrc, List.length_set, List.take_set]
    rw [List.drop_set_of_lt hfield, hcrc, hbefore] at hcrc'
    refine crc_set_ne (bytes := beforeCrc bytes) (i := i) (b := b) ?_ ?_ (crcBytes_inj hcrc').symm
    · rw [beforeCrc, List.length_take]; omega
    · rwa [beforeCrc, List.getD_eq_getElem?_getD, List.getElem?_take_of_lt hfield, ← List.getD_eq_getElem?_getD]
  · have hbefore : beforeCrc (bytes.set i b) = beforeCrc bytes := by
      rw [beforeCrc, beforeCrc, List.length_set, List.take_set_of_le (by omega)]
    rw [hbefore, ← hcrc] at hcrc'
    have hbyte := congrArg (fun l : List Byte => l[i - (bytes.length - 2)]?) hcrc'
    simp only [List.getElem?_drop, show bytes.length - 2 + (i - (bytes.length - 2)) = i by omega,
      List.getElem?_set_self hi] at hbyte
    rw [List.getD_eq_getElem?_getD, ← hbyte] at hb
    exact hb rfl

end Sys2Proof.Machine
end

section
/-! PROOFS. The line interface is held outside LISTENING, ONLINE and LEAVING, and the counts of the turn controller stay in
range (R56, R57, R68, R75). -/

namespace Sys2Proof.Machine

open Sys2Proof.Safety

/-! ## Engines leave the line and the station alone -/

/-- Updates that touch neither the line nor the station's state. -/
abbrev EngineUpdates : State → State → Prop := Updates fun p => p ≠ .line ∧ p ≠ .station

theorem engineUpdates_kept (s : State) : EnginesKept (EngineUpdates s) :=
  Updates.enginesKept (fun _ _ hline hstation => ⟨hline, hstation⟩) s

section
variable {s t : State} (h : EngineUpdates s t)
include h

theorem EngineUpdates.station_eq : t.station = s.station := Updates.station_eq h (by decide)

theorem EngineUpdates.turn_eq : t.turn = s.turn := Updates.turn_eq h (by decide)

theorem EngineUpdates.line_eq : t.line = s.line := Updates.line_eq h (by decide)

theorem EngineUpdates.rxdLow_eq : t.rxdLow = s.rxdLow := Updates.rxdLow_eq h (by decide)

end

/-! ## A station that takes part in turns or listens -/

/-- What LineHeld says of a line interface in use. -/
structure InTurns (s : State) : Prop where
  inUse : s.lineInUse = true
  collided : s.turn.collided < Config.faultLimit
  notLow : s.rxdLow = false
  quiet : s.turn.quiet ≤ Config.quietTurns
  own : s.turn.ownTurn = true → s.turn.counter = s.ownAddr

variable {s t : State}

theorem InTurns.lineHeld (h : InTurns s) : LineHeld s :=
  ⟨fun hfree => by simp [h.inUse] at hfree, fun _ => ⟨h.collided, h.notLow⟩, h.collided.le, h.quiet, h.own⟩

theorem lineHeld_inTurns (h : LineHeld s) (hin : s.lineInUse = true) : InTurns s := by
  obtain ⟨-, huse, -, hquiet, hown⟩ := h
  exact ⟨hin, (huse hin).1, (huse hin).2, hquiet, hown⟩

/-- What the engines do keeps it. -/
theorem InTurns.engines (h : InTurns s) (hu : EngineUpdates s t) : InTurns t := by
  obtain ⟨hin, hcoll, hlow, hquiet, hown⟩ := h
  refine ⟨?_, ?_, ?_, ?_, ?_⟩
  · rwa [State.lineInUse, hu.station_eq]
  · rwa [hu.turn_eq]
  · rwa [hu.rxdLow_eq]
  · rwa [hu.turn_eq]
  · rwa [hu.turn_eq, hu.ownAddr_eq]

/-- A replaced turn controller state, within the ranges. -/
theorem InTurns.withTurn (h : InTurns s) {c : TurnControl} (collided : c.collided = s.turn.collided)
    (quiet : c.quiet ≤ s.turn.quiet) (own : c.ownTurn = true → c.counter = s.ownAddr) : InTurns { s with turn := c } :=
  ⟨h.inUse, collided ▸ h.collided, h.notLow, quiet.trans h.quiet, own⟩

/-! ## Exits -/

/-- Apart from both engines, the entry to OFFLINE leaves a held line (R57, R68). -/
theorem goOffline_updates (s : State) :
    Updates (fun p => p = .tx ∨ p = .rx)
      { s.stopLine with station := .offline, turn := turnOff s.turn } s.goOffline := by
  unfold State.goOffline
  refine Updates.rxOffline (.inr rfl) (.ite (fun _ => ?_) fun _ => ?_)
  · exact (Updates.refl _).interrupt (.inl rfl)
  · exact Updates.refl _

theorem goOffline_lineHeld (h : s.turn.collided ≤ Config.faultLimit) : LineHeld s.goOffline := by
  have hu := goOffline_updates s
  have hstation := hu.station_eq (by simp)
  have hturn := hu.turn_eq (by simp)
  refine ⟨fun _ => ⟨hu.line_eq (by simp), hu.request_eq (by simp), ?_, ?_, ?_⟩, fun hin => ?_, ?_, ?_, ?_⟩
  · rw [hturn]; rfl
  · rw [hturn]; rfl
  · rw [hturn]; rfl
  · rw [State.lineInUse, hstation] at hin
    cases hin
  · rw [hturn]; exact h
  · rw [hturn]; exact Nat.zero_le _
  · rw [hturn]; nofun

theorem lineHeld_raise (e : Event) (h : LineHeld s) : LineHeld (s.raise e) := h

theorem lineHeld_answering (st : Status) (rs : List Byte) (h : LineHeld s) : LineHeld (s.answering st rs) := h

theorem InTurns.goResync (h : InTurns s) : InTurns s.goResync := by
  refine InTurns.engines (s := { s with
    station := .listening
    line := .skipping { began := .other, counted := false, remainder := true }
    turn := { s.turn with flavour := .resync, timer := .stopped, quiet := 0, ownTurn := false } }) ?_ ?_
  · exact ⟨rfl, h.collided, h.notLow, Nat.zero_le _, nofun⟩
  · exact (engineUpdates_kept _).interrupt (Updates.refl _)

/-- A collision is counted, its engine step taken, and the station leaves its state by the count and the state (R74, R75). -/
theorem collide_cases (s : State) (f : Frame) :
    ∃ v, EngineUpdates { s with turn := { s.turn with collided := s.turn.collided + 1 }, sinceLow := 0 } v
      ∧ s.collide f = if Config.faultLimit ≤ v.turn.collided then v.goFault
        else if v.station = .leaving then v.goOffline else v.goResync := by
  have hcount := (Updates.refl (P := fun p => p ≠ .line ∧ p ≠ .station)
    { s with turn := { s.turn with collided := s.turn.collided + 1 }, sinceLow := 0 }).count .collisions
  cases f with
  | data g => exact ⟨_, (engineUpdates_kept _).ownTurnEnds hcount none, rfl⟩
  | pass a => exact ⟨_, hcount, rfl⟩
  | reply r => exact ⟨_, hcount, rfl⟩

theorem collide_lineHeld (h : InTurns s) (f : Frame) : LineHeld (s.collide f) := by
  obtain ⟨v, hu, hv⟩ := collide_cases s f
  have hcollided : v.turn.collided = s.turn.collided + 1 := congrArg TurnControl.collided hu.turn_eq
  have hle : v.turn.collided ≤ Config.faultLimit := hcollided ▸ h.collided
  rw [hv]
  refine ite_keeps (Q := LineHeld) (fun _ => lineHeld_raise _ (goOffline_lineHeld hle)) fun hbelow => ite_keeps (Q := LineHeld) (fun _ => goOffline_lineHeld hle) fun _ => ?_
  refine (InTurns.goResync ⟨?_, by omega, ?_, ?_, ?_⟩).lineHeld
  · rw [State.lineInUse, hu.station_eq]; exact h.inUse
  · rw [hu.rxdLow_eq]; exact h.notLow
  · rw [hu.turn_eq]; exact h.quiet
  · rw [hu.turn_eq, hu.ownAddr_eq]; exact h.own

/-! ## Turns -/

theorem InTurns.turnPasses (h : InTurns s) : InTurns s.turnPasses := by
  refine InTurns.engines (s := { s with turn := s.turn.advance }) (h.withTurn rfl ?_ nofun)
    ((engineUpdates_kept _).countPatience (Updates.refl _) _)
  unfold TurnControl.advance
  dsimp only
  split <;> omega

theorem InTurns.endTurn (h : InTurns s) (way : TurnWay) : InTurns (s.endTurn way) := by
  refine h.turnPasses.engines ?_
  have htold := (engineUpdates_kept s.turnPasses).tellTransmit (Updates.refl _) s.turn.counter way.answer
  exact .ite (fun _ => (engineUpdates_kept _).missTurn htold _) fun _ => htold

theorem State.atOwnTurn_iff : s.atOwnTurn = true ↔ s.station = .online ∧ s.turn.counter = s.ownAddr := by
  simp [State.atOwnTurn]

theorem InTurns.markOwnTurn (h : InTurns s) : InTurns s.markOwnTurn := by
  unfold State.markOwnTurn
  split
  · next hat => exact h.withTurn rfl le_rfl fun _ => (State.atOwnTurn_iff.mp hat).2
  · exact h

theorem InTurns.startOwnTurn (h : InTurns s) : InTurns s.startOwnTurn := by
  unfold State.startOwnTurn
  split
  · next hat =>
    refine h.markOwnTurn.engines ((engineUpdates_kept _).ownTurnStarts (Updates.refl _)
      (fun n hu => hu.setTx (by decide) n _ rfl) ?_)
    have honline : s.markOwnTurn.station = .online := by
      rw [State.markOwnTurn, if_pos hat.1]
      exact (State.atOwnTurn_iff.mp hat.1).1
    rw [honline]
    decide
  · exact h.markOwnTurn

theorem lineHeld_collided (h : LineHeld s) : s.turn.collided ≤ Config.faultLimit := by
  obtain ⟨-, -, hcollided, -⟩ := h
  exact hcollided

theorem lineHeld_own (h : LineHeld s) : s.turn.ownTurn = true → s.turn.counter = s.ownAddr := by
  obtain ⟨-, -, -, -, hown⟩ := h
  exact hown

theorem leaveAfter_lineHeld (h : LineHeld s) (owner : Station) : LineHeld (s.leaveAfter owner) :=
  ite_keeps (Q := LineHeld) (fun _ => goOffline_lineHeld (lineHeld_collided h)) fun _ => h

theorem turnEnd_lineHeld (h : InTurns s) (way : TurnWay) : LineHeld (s.turnEnd way) :=
  leaveAfter_lineHeld (h.endTurn way).startOwnTurn.lineHeld _

theorem InTurns.withTimer (h : InTurns s) (m : Timer) : InTurns (s.withTimer m) := h.withTurn rfl le_rfl h.own

theorem openTurn_lineHeld (h : InTurns s) (f : Frame) : LineHeld (s.openTurn f) := by
  unfold State.openTurn
  split
  · exact turnEnd_lineHeld h _
  · exact (h.withTimer _).lineHeld

theorem InTurns.slipTo (h : InTurns s) (a : Station) : InTurns (s.slipTo a) := by
  refine InTurns.engines (h.withTurn (c := { s.turn with
    counter := a, ownTurn := false, quiet := if s.turn.ownTurn then s.turn.quiet - 1 else s.turn.quiet }) rfl ?_ nofun)
    (((Updates.refl _).count _).raise _)
  dsimp only
  split <;> omega

theorem holdTurn_lineHeld (h : InTurns s) (inWindow : Bool) (f : Frame) : LineHeld (s.holdTurn inWindow f) :=
  openTurn_lineHeld (ite_keeps (Q := InTurns) (c := f.source ≠ s.turn.counter ∨ inWindow) (fun _ => h.slipTo _) fun _ => h) f

theorem InTurns.hearSource (h : InTurns s) (v : Option Frame) : InTurns (s.hearSource v) :=
  h.engines ((engineUpdates_kept s).hearSource (Updates.refl s) v)

theorem frameInWindow_lineHeld (h : InTurns s) (v : Option Frame) : LineHeld (s.frameInWindow v) := by
  refine leaveAfter_lineHeld ?_ _
  cases turnHolder v with
  | some f => exact holdTurn_lineHeld ((h.endTurn _).markOwnTurn.hearSource v) true f
  | none =>
    have hheard := h.turnPasses.startOwnTurn.hearSource v
    exact (hheard.engines ((engineUpdates_kept _).tellTransmit (Updates.refl _) _ v)).lineHeld

theorem frameInGap_lineHeld (h : InTurns s) (began : Began) (v : Option Frame) : LineHeld (s.frameInGap began v) := by
  have hheard := h.hearSource v
  unfold State.frameInGap
  cases turnHolder v with
  | some f => exact holdTurn_lineHeld hheard false f
  | none => exact ite_keeps (Q := LineHeld) (fun _ => (hheard.withTimer _).lineHeld) fun _ => hheard.lineHeld

theorem adopt_lineHeld (h : InTurns s) (f : Frame) : LineHeld (s.adopt f) := by
  have honline : InTurns { s with
      station := .online
      turn := { s.turn with
        counter := f.source, ownTurn := false, timer := .stopped
        quiet := if s.turn.flavour = Flavour.joining then Config.quietTurns else 0 } } := by
    refine ⟨rfl, h.collided, h.notLow, ?_, nofun⟩
    dsimp only
    split
    · exact le_rfl
    · exact Nat.zero_le _
  exact openTurn_lineHeld (honline.hearSource (some f)) f

theorem frameToTurns_lineHeld (h : LineHeld s) (hline : s.lineInUse = true) (began : Began) (v : Option Frame) :
    LineHeld (s.frameToTurns began v) := by
  have hin := lineHeld_inTurns h hline
  have hturn : LineHeld (s.frameInTurn began v) :=
    ite_keeps (Q := LineHeld) (fun _ => frameInWindow_lineHeld hin v) fun _ => frameInGap_lineHeld hin began v
  unfold State.frameToTurns
  split
  · cases turnHolder v with
    | some f => exact adopt_lineHeld hin f
    | none => exact (hin.withTimer _).lineHeld
  · exact hturn
  · exact hturn
  · exact h

/-- A REPLY is requested only in ONLINE. -/
theorem frameToEngines_lineHeld (h : LineHeld s) (v : Option Frame)
    (hv : ∀ f, v = some (.data f) → f.payload.length ≤ Config.bufferSize) : LineHeld (s.frameToEngines v) := by
  unfold State.frameToEngines
  split
  · next f =>
    unfold State.heardData
    split
    · next honline =>
      have hin := lineHeld_inTurns h (by rw [State.lineInUse, honline.2.1]; rfl)
      have hdecided : EngineUpdates s (s.replyDecision f.channel f).2 :=
        (Updates.refl s).replyDecision (by decide) (by decide) (hv f rfl) _
      exact (hin.engines (hdecided.add (.request (by decide) _))).lineHeld
    · exact h
  · exact h

theorem frameEnds_lineHeld (h : LineHeld s) (hline : s.lineInUse = true) (hh : Heard) (v : Option Frame)
    (hv : ∀ f, v = some (.data f) → f.payload.length ≤ Config.bufferSize) : LineHeld (s.frameEnds hh v) := by
  refine frameToEngines_lineHeld (frameToTurns_lineHeld ?_ ?_ _ v) v hv
  · have hin := lineHeld_inTurns h hline
    exact ite_keeps (Q := LineHeld) (fun _ => InTurns.lineHeld ⟨hline, hin.collided, hin.notLow, hin.quiet, hin.own⟩)
      fun _ => InTurns.lineHeld ⟨hline, hin.collided, hin.notLow, hin.quiet, hin.own⟩
  · split <;> exact hline

/-! ## Every step -/

/-- A held line is QUIET. -/
theorem lineHeld_inUse (h : LineHeld s) (hline : s.line ≠ .quiet) : s.lineInUse = true := by
  by_contra hfree
  exact hline (h.1 (Bool.eq_false_iff.mpr hfree)).1

/-- Commands that touch neither the line, the station's state nor the request keep it. -/
theorem Updates.lineHeld {P : Part → Prop} (hu : Updates P s t) (hline : ¬ P .line) (hstation : ¬ P .station)
    (hrequest : ¬ P .request) (h : LineHeld s) : LineHeld t := by
  unfold LineHeld State.lineInUse
  rw [hu.station_eq hstation, hu.turn_eq hline, hu.line_eq hline, hu.rxdLow_eq hline, hu.request_eq hrequest,
    hu.ownAddr_eq]
  exact h

theorem Replaced.lineHeld {c : Instr} (hu : Replaced c s t) (h : LineHeld s) : LineHeld t := by
  cases hu with
  | reset hc st hst =>
    refine ⟨fun _ => ⟨rfl, rfl, rfl, rfl, rfl⟩, fun hin => ?_, Nat.zero_le _, Nat.zero_le _, nofun⟩
    obtain rfl | rfl := hst <;> cases hin
  | cleared _ hst =>
    obtain ⟨hheld, -, hcollided, hquiet, hown⟩ := h
    have hfree : s.lineInUse = false := by rw [State.lineInUse, hst]; rfl
    exact ⟨fun _ => hheld hfree, fun hin => by simp [State.lineInUse] at hin, hcollided, hquiet, hown⟩
  | _ => exact h

theorem lineHeld_atPort {u : State} (h : LineHeld s) (hu : LineHeld u) : LineHeld (s.atPort u) :=
  ite_keeps (Q := LineHeld) (fun _ => h) fun _ => ite_keeps (Q := LineHeld) (fun _ => h) fun _ => hu

/-- The events of the line and the station commands, of a line that is held or in use as it should be. -/
theorem exec_lineHeld {c : Instr} (hc : movesTurns c = true) (h : LineHeld s) (hexec : exec c s = .next t) : LineHeld t := by
  cases c with
  | join =>
    obtain rfl := Host.Outcome.next.inj hexec
    refine lineHeld_atPort h (ite_keeps (Q := LineHeld) (fun _ => lineHeld_answering _ _ ?_) fun _ => h)
    exact InTurns.lineHeld ⟨rfl, Nat.succ_pos 7, rfl, Nat.zero_le _, lineHeld_own (s := s) h⟩
  | leave =>
    obtain rfl := Host.Outcome.next.inj hexec
    refine lineHeld_atPort h ?_
    split
    · exact lineHeld_answering _ _ (goOffline_lineHeld (lineHeld_collided h))
    · next honline =>
      have hin := lineHeld_inTurns h (by rw [State.lineInUse, honline]; rfl)
      split
      · exact InTurns.lineHeld ⟨rfl, hin.collided, hin.notLow, hin.quiet, hin.own⟩
      · exact lineHeld_answering _ _ (goOffline_lineHeld (lineHeld_collided h))
    · exact h
  | frameStart =>
    obtain rfl := Host.Outcome.next.inj hexec
    refine ite_keeps (Q := LineHeld) (fun huse => ?_) fun _ => h
    have hin := lineHeld_inTurns h huse.1
    exact InTurns.lineHeld ⟨huse.1, hin.collided, hin.notLow, hin.quiet, hin.own⟩
  | frameEnd bytes =>
    obtain rfl := Host.Outcome.next.inj hexec
    split
    · next hline =>
      have huse := lineHeld_inUse h (by rw [hline]; nofun)
      exact ite_keeps (Q := LineHeld) (fun _ => frameEnds_lineHeld (s := s.lowBefore bytes) h huse _ _
        fun f hf => payload_length_le (verdict_data hf)) fun _ => h
    · exact h
  | idleFrameEnd =>
    obtain rfl := Host.Outcome.next.inj hexec
    have hidle := fun (huse : s.lineInUse = true) hh => frameEnds_lineHeld (s := s.idleExceeded) h huse hh none nofun
    refine ite_keeps (Q := LineHeld) (fun _ => ?_) fun _ => h
    split
    · next hline => exact hidle (lineHeld_inUse h (by rw [hline]; nofun)) _
    · next hline => exact hidle (lineHeld_inUse h (by rw [hline]; nofun)) _
    · exact h
  | ownFrameStart =>
    obtain rfl := Host.Outcome.next.inj hexec
    split
    · next f hrequest =>
      have huse : s.lineInUse = true := by
        by_contra hfree
        have hnone := (h.1 (Bool.eq_false_iff.mpr hfree)).2.1
        rw [hrequest] at hnone
        cases hnone
      have hin := lineHeld_inTurns h huse
      exact InTurns.lineHeld ⟨huse, hin.collided, hin.notLow, hin.quiet, hin.own⟩
    · exact h
  | ownFrameEnd =>
    obtain rfl := Host.Outcome.next.inj hexec
    split
    · next f hline =>
      have hin := lineHeld_inTurns h (lineHeld_inUse h (by rw [hline]; nofun))
      have hsent : InTurns (({ s.lowBefore (encodeFrame f) with
          line := .quiet, turn := { s.turn with collided := 0 } } : State).count (sentCounter f)) :=
        ⟨hin.inUse, Nat.succ_pos 7, hin.notLow, hin.quiet, hin.own⟩
      cases f with
      | pass a => exact turnEnd_lineHeld hsent _
      | data g => exact (hsent.withTimer _).lineHeld
      | reply r => exact turnEnd_lineHeld hsent _
    · exact h
  | collision =>
    obtain rfl := Host.Outcome.next.inj hexec
    split
    · next hline => exact collide_lineHeld (lineHeld_inTurns h (lineHeld_inUse h (by rw [hline]; nofun))) _
    · exact h
  | fault =>
    obtain rfl := Host.Outcome.next.inj hexec
    split
    · next hline =>
      exact ite_keeps (Q := LineHeld) (fun _ => collide_lineHeld (lineHeld_inTurns h (lineHeld_inUse h (by rw [hline]; nofun))) _) fun _ => h
    · exact h
  | responseWindowExpiry =>
    obtain rfl := Host.Outcome.next.inj hexec
    exact ite_keeps (Q := LineHeld) (fun hexpires => turnEnd_lineHeld (lineHeld_inTurns h ((State.canExpire_iff _ _).mp hexpires).1) _) fun _ => h
  | turnGapExpiry =>
    obtain rfl := Host.Outcome.next.inj hexec
    exact ite_keeps (Q := LineHeld) (fun hexpires => turnEnd_lineHeld (lineHeld_inTurns h ((State.canExpire_iff _ _).mp hexpires).1) _) fun _ => h
  | listenExpiry =>
    obtain rfl := Host.Outcome.next.inj hexec
    exact ite_keeps (Q := LineHeld) (fun hexpires => ((lineHeld_inTurns h ((State.canExpire_iff _ _).mp hexpires).1).withTimer _).lineHeld)
      fun _ => h
  | claimExpiry =>
    obtain rfl := Host.Outcome.next.inj hexec
    refine ite_keeps (Q := LineHeld) (fun hexpires => ?_) fun _ => h
    have hin := lineHeld_inTurns h ((State.canExpire_iff _ _).mp hexpires).1
    exact InTurns.lineHeld ⟨rfl, hin.collided, hin.notLow, Nat.zero_le _, fun _ => rfl⟩
  | absenceCountLimit | attemptsLimit | latersLimit =>
    exact (exec_updates (P := (· = .tx)) rfl (fun _ hp => by simpa [touches] using hp) hexec).lineHeld
      (by decide) (by decide) (by decide) h
  | rosterAbsent a =>
    obtain rfl := Host.Outcome.next.inj hexec
    refine ite_keeps (Q := LineHeld) (fun hdue => ?_) fun _ => h
    have huse : s.lineInUse = true := by
      simp only [State.absentDue, State.keepsTurns, Bool.and_eq_true, Bool.or_eq_true, beq_iff_eq] at hdue
      obtain ⟨⟨⟨⟨honline | hleaving, -⟩, -⟩, -⟩, -⟩ := hdue
      · rw [State.lineInUse, honline]; rfl
      · rw [State.lineInUse, hleaving]; rfl
    exact ((lineHeld_inTurns h huse).engines ((engineUpdates_kept s).missTurn (Updates.refl s) a)).lineHeld
  | entryToSkipping cause =>
    obtain rfl := Host.Outcome.next.inj hexec
    split
    · next hline =>
      have hin := lineHeld_inTurns h (lineHeld_inUse h (by rw [hline]; nofun))
      exact ite_keeps (Q := LineHeld) (fun _ => InTurns.lineHeld ⟨hin.inUse, hin.collided, hin.notLow, hin.quiet, hin.own⟩) fun _ => h
    · exact h
  | rxdLowWhileHeld stays =>
    obtain rfl := Host.Outcome.next.inj hexec
    refine ite_keeps (Q := LineHeld) (fun _ => h) fun hfree => ?_
    obtain ⟨hheld, -, hcollided, hquiet, hown⟩ := h
    exact ⟨hheld, fun hin => absurd hin hfree, hcollided, hquiet, hown⟩
  | _ => cases hc

/-- A command that moves no turn, FIX apart, touches channels and packet memory at most. -/
theorem touches_quiet {c : Instr} {p : Part} (hmoves : movesTurns c = false) (hfix : c ≠ .fix) (hp : touches c p = true) :
    p = .tx ∨ p = .rx ∨ p = .memory := by
  cases c <;> simp_all [touches, movesTurns]

theorem freeze_lineHeld (h : LineHeld s) (hst : s.station = .unconfigured) : LineHeld s.freeze := by
  have hu := (Updates.refl (P := fun p => p ≠ .line ∧ p ≠ .request) s).freeze (by decide) (by decide) (by decide) (by decide)
  obtain ⟨hheld, -, hcollided, hquiet, hown⟩ := h
  have hfree : s.lineInUse = false := by rw [State.lineInUse, hst]; rfl
  have hoffline : s.freeze.station = .offline := by rw [State.freeze_eq]
  unfold LineHeld State.lineInUse
  rw [hu.turn_eq (by decide), hu.line_eq (by decide), hu.request_eq (by decide), hu.ownAddr_eq, hoffline]
  exact ⟨fun _ => hheld hfree, fun hin => by simp at hin, hcollided, hquiet, hown⟩

/-- Settles O52: turns keep the counts in range while the line is in use (`InTurns`), and each exit leaves it held. -/
theorem heldLineStaysSilent : Obligations.HeldLineStaysSilent := by
  intro s t h hstep
  obtain rfl | ⟨c, rest, hexec⟩ := step_cases hstep
  · obtain ⟨k, hk⟩ := idleTick_eq s
    rw [hk]
    exact h
  · have h : LineHeld { s with pending := rest } := h
    cases hreplaces : replaces c with
    | true => exact (exec_replaced hreplaces hexec).lineHeld h
    | false =>
      cases hmoves : movesTurns c with
      | true => exact exec_lineHeld hmoves h hexec
      | false =>
        by_cases hfix : c = .fix
        · subst hfix
          obtain rfl := Host.Outcome.next.inj hexec
          exact lineHeld_atPort h (ite_keeps (Q := LineHeld) (fun hst => ite_keeps (Q := LineHeld)
            (fun _ => lineHeld_answering _ _ (freeze_lineHeld h hst)) fun _ => h) fun _ => h)
        · have hu := exec_updates (P := fun p => p = .tx ∨ p = .rx ∨ p = .memory) hreplaces
            (fun _ => touches_quiet hmoves hfix) hexec
          exact hu.lineHeld (by simp) (by simp) (by simp) h

end Sys2Proof.Machine
end

section
/-! PROOFS. The receive channels' contexts and the sizes of delivered messages are kept by every step (R6, R110, R111, R118,
R127, R129). -/

namespace Sys2Proof.Machine

open Sys2Proof.Safety

/-! ## The context of one channel -/

theorem RxChan.busy_iff (c : RxChan) : c.busy = true ↔ c.state = .assembling ∨ c.state = .discarding := by
  simp [RxChan.busy]

theorem RxChan.busyFrom_iff (c : RxChan) (a : Station) :
    c.busyFrom a = true ↔ (c.state = .assembling ∨ c.state = .discarding) ∧ c.source = some a := by
  simp [RxChan.busyFrom, RxChan.busy]

/-- A channel with no message in progress: nothing held, and defined unless it is DISABLED. -/
theorem rxContextSound_resting {c : RxChan} (hbusy : c.busy = false) (hsource : c.source = none) (hpart : c.part = none)
    (hidle : c.idle = 0) (hdefn : c.state ≠ .disabled → c.defn.isSome = true)
    (hpatience : ∀ df, c.defn = some df → 1 ≤ df.patience ∧ df.patience ≤ 255) : RxContextSound c := by
  refine ⟨?_, ?_, ?_, hdefn, fun df hdf => ?_, fun _ => hidle⟩
  · rw [hpart]
    refine ⟨fun hstate => ?_, nofun⟩
    rw [(c.busy_iff).mpr (.inl hstate)] at hbusy
    cases hbusy
  · rw [hbusy, hsource]; rfl
  · rw [hpart]; nofun
  · obtain ⟨hpos, hle⟩ := hpatience df hdf
    exact ⟨hpos, hle, fun h => by simp [hbusy] at h⟩

section
variable {c : RxChan} (h : RxContextSound c)
include h

theorem rxContextSound_patience (df : RxDef) (hdf : c.defn = some df) : 1 ≤ df.patience ∧ df.patience ≤ 255 := by
  obtain ⟨-, -, -, -, hpatience, -⟩ := h
  exact ⟨(hpatience df hdf).1, (hpatience df hdf).2.1⟩

theorem rxContextSound_defined (hst : c.state ≠ .disabled) : c.defn.isSome = true := by
  obtain ⟨-, -, -, hdefn, -⟩ := h
  exact hdefn hst

theorem rxContextSound_part {p : Assembly} (hpart : c.part = some p) :
    1 ≤ p.count ∧ p.count ≤ Config.partialLimit ∧ p.length ≤ Config.bufferSize * p.count := by
  obtain ⟨-, -, hsizes, -⟩ := h
  exact hsizes p hpart

/-- The end of a message in progress, or none, in a state that holds none; the counters are the caller's. -/
theorem rxContextSound_atRest {st : RxState} (hst : st ≠ .assembling ∧ st ≠ .discarding)
    (hdefn : st ≠ .disabled → c.defn.isSome = true) (drops abandons : Nat) :
    RxContextSound { c.atRest st with drops := drops, abandons := abandons } :=
  rxContextSound_resting (by simp [RxChan.busy, RxChan.atRest, hst]) rfl rfl rfl hdefn
    fun df hdf => rxContextSound_patience h df hdf

/-- Progress of a message, or none at all: the idle turns start again (R117, R122, R123). -/
theorem rxContextSound_progress (progress : Bool) : RxContextSound { c with idle := 0, progress := progress } := by
  obtain ⟨hpart, hbusy, hcounts, hdefn, hpatience, -⟩ := h
  exact ⟨hpart, hbusy, hcounts, hdefn,
    fun df hdf => ⟨(hpatience df hdf).1, (hpatience df hdf).2.1, fun _ => (hpatience df hdf).1⟩, fun _ => rfl⟩

end

/-! ## Both invariants of the receive engine -/

/-- Receive contexts and delivered sizes, together. -/
def RxSound (s : State) : Prop := ReceiveSound s ∧ DeliveredSizes s

variable {s t : State}

/-- What touches no receive channel and no station state keeps them. -/
theorem Updates.rxSound {P : Part → Prop} (hu : Updates P s t) (hrx : ¬ P .rx) (hstation : ¬ P .station) (h : RxSound s) :
    RxSound t := by
  obtain ⟨⟨hcontexts, hfresh⟩, hsizes⟩ := h
  refine ⟨⟨fun n => ?_, ?_⟩, hu.deliveredSizes hrx hsizes⟩
  · rw [State.rxc, hu.rx_eq hrx]
    exact hcontexts n
  · rw [hu.station_eq hstation]
    intro hst n
    rw [State.rxc, hu.rx_eq hrx]
    exact hfresh hst n

/-- A channel's context replaced by a sound one, before FIX a DISABLED one, in a state that differs from a sound one in that
channel's context and in records that keep the sizes. -/
theorem rxSound_replaced (h : RxSound s) (n : ChanId) {c : RxChan} (hrx : ∀ m, m ≠ n → t.rxc m = s.rxc m)
    (hstation : t.station = s.station) (hsizes : DeliveredSizes t) (hc : RxContextSound c)
    (hnew : s.station = .starting ∨ s.station = .unconfigured → c.state = .disabled) : RxSound (t.setRx n c) := by
  obtain ⟨⟨hcontexts, hfresh⟩, -⟩ := h
  refine ⟨⟨fun m => ?_, fun hst m => ?_⟩, hsizes⟩
  · rw [State.rxc_setRx]
    split
    · exact hc
    · next hm => exact hrx m (Ne.symm hm) ▸ hcontexts m
  · rw [State.setRx_station, hstation] at hst
    rw [State.rxc_setRx]
    split
    · exact hnew hst
    · next hm => exact hrx m (Ne.symm hm) ▸ hfresh hst m

theorem rxSound_setRx (h : RxSound s) (n : ChanId) {c : RxChan} (hc : RxContextSound c)
    (hdisabled : (s.rxc n).state = .disabled → c.state = .disabled) : RxSound (s.setRx n c) :=
  rxSound_replaced h n (fun _ _ => rfl) rfl h.2 hc fun hst => hdisabled (h.1.2 hst n)

/-- Abandonment, into a state that holds no message, of a channel whose context was first replaced by one with the same
definition (R128, R129, R137). -/
theorem abandonTo_setRx_rxSound (h : RxSound s) (n : ChanId) {c : RxChan} (hdefn : c.defn = (s.rxc n).defn) {st : RxState}
    (hst : st = .idle ∨ st = .halted) (hstate : (s.rxc n).state ≠ .disabled) :
    RxSound ((s.setRx n c).abandonTo n st) := by
  obtain ⟨⟨hcontexts, hfresh⟩, hsizes⟩ := h
  have hback : DeliveredSizes ((s.setRx n c).returnPartial n) :=
    ((Updates.refl (P := fun _ => False) (s.setRx n c)).returnPartial n).deliveredSizes id hsizes
  have hframe := abandonTo_frame (s.setRx n c) n st
  refine ⟨⟨fun m => ?_, fun hfix m => ?_⟩, hback⟩
  · rw [abandonTo_rxc, State.rxc_setRx, State.rxc_setRx, if_pos rfl]
    split
    · have hsound := rxContextSound_atRest (hcontexts n) (st := st) (by obtain rfl | rfl := hst <;> decide)
        (fun _ => rxContextSound_defined (hcontexts n) hstate) c.drops (saturate Config.channelCounterLimit c.abandons)
      unfold RxContextSound at hsound ⊢
      simpa only [RxChan.atRest, RxChan.busy, hdefn] using hsound
    · exact hcontexts m
  · rw [hframe] at hfix
    exact absurd (hfresh hfix n) hstate

theorem abandonTo_rxSound (h : RxSound s) (n : ChanId) {st : RxState} (hst : st = .idle ∨ st = .halted)
    (hstate : (s.rxc n).state ≠ .disabled) : RxSound (s.abandonTo n st) := by
  have hself := abandonTo_setRx_rxSound h n (c := s.rxc n) rfl hst hstate
  rwa [setRx_self] at hself

theorem rxSound_busy_state {c : RxChan} (hbusy : c.busy = true) : c.state ≠ .disabled := by
  intro hst
  simp [RxChan.busy, hst] at hbusy

theorem busyFrom_busy {c : RxChan} {a : Station} (h : c.busyFrom a = true) : c.busy = true :=
  (Bool.and_eq_true_iff.mp h).1

/-! ## Patience, absence, OFFLINE -/

/-- An idle turn that does not reach the patience (R129). -/
theorem patienceOf_rxSound (h : RxSound s) (a : Station) (n : ChanId) : RxSound (s.patienceOf a n) := by
  have hc : RxContextSound (s.rxc n) := h.1.1 n
  unfold State.patienceOf
  cases hdefn : (s.rxc n).defn with
  | none => exact h
  | some df =>
    refine ite_keeps (fun hfrom => ite_keeps (fun _ => ?_) fun _ => ?_) fun _ => h
    · obtain ⟨hpart, hbusy, hcounts, hsome, hpatience, hidle⟩ := hc
      exact rxSound_setRx h n ⟨hpart, hbusy, hcounts, hsome, hpatience, hidle⟩ id
    · have hstate := rxSound_busy_state (busyFrom_busy hfrom)
      have hidle : ((s.setRx n { s.rxc n with idle := (s.rxc n).idle + 1 }).rxc n).idle = (s.rxc n).idle + 1 := by
        rw [State.rxc_setRx, if_pos rfl]
      refine ite_keeps (fun _ => ?_) fun hbelow => ?_
      · exact abandonTo_setRx_rxSound (c := { s.rxc n with idle := (s.rxc n).idle + 1 }) h n rfl (.inl rfl) hstate
      · rw [hidle] at hbelow
        obtain ⟨hpart, hbusy, hcounts, hsome, hpatience, -⟩ := hc
        refine rxSound_setRx h n ⟨hpart, hbusy, hcounts, hsome, fun df' hdf' => ?_, fun hfree => ?_⟩ id
        · obtain rfl : df = df' := Option.some.inj (hdefn.symm.trans hdf')
          exact ⟨(hpatience df hdefn).1, (hpatience df hdefn).2.1, fun _ => not_le.mp hbelow⟩
        · exact absurd ((busyFrom_busy hfrom).symm.trans hfree) (by decide)

theorem sourceAbsent_rxSound (h : RxSound s) (a : Station) (n : ChanId) : RxSound (s.sourceAbsent a n) := by
  have htally : RxSound (s.setTally n a none) := h
  exact ite_keeps (fun hfrom => abandonTo_rxSound htally n (.inl rfl) (rxSound_busy_state (busyFrom_busy hfrom)))
    fun _ => htally

theorem chanOffline_rxSound (h : RxSound s) (n : ChanId) : RxSound (s.chanOffline n) := by
  have hended : RxSound (s.abandonIfBusy n) :=
    ite_keeps (fun hbusy => abandonTo_rxSound h n (.inl rfl) (rxSound_busy_state hbusy)) fun _ => h
  exact rxSound_setRx hended n (rxContextSound_progress (hended.1.1 n) false) id

/-! ## The reply decision -/

theorem recordTally_rxSound (h : RxSound s) (n : ChanId) (f : DataFrame) : RxSound (s.recordTally n f) := h

/-- DROP starvation leaves the channel IDLE, or DISCARDING from the frame's source (R126). -/
theorem dropSegment_rxSound (h : RxSound s) (n : ChanId) (f : DataFrame) (hstate : (s.rxc n).state ≠ .disabled) :
    RxSound (s.dropSegment n f) := by
  have hback : RxSound ((s.returnPartial n).recordTally n f) :=
    ((Updates.refl (P := fun _ => False) s).returnPartial n).rxSound id id h
  have hrxc : ((s.returnPartial n).recordTally n f).rxc n = s.rxc n := by
    change (s.returnPartial n).rxc n = _
    rw [returnPartial_frame]
    rfl
  have hc : RxContextSound (s.rxc n) := h.1.1 n
  refine rxSound_setRx hback n ?_ fun hdisabled => absurd (hrxc ▸ hdisabled) hstate
  rw [hrxc]
  have hpatience := rxContextSound_patience hc
  have hsome := rxContextSound_defined hc hstate
  cases f.last with
  | true => exact rxContextSound_resting rfl rfl rfl rfl (fun _ => hsome) hpatience
  | false =>
    exact ⟨⟨nofun, nofun⟩, rfl, nofun, fun _ => hsome,
      fun df hdf => ⟨(hpatience df hdf).1, (hpatience df hdf).2, fun _ => (hpatience df hdf).1⟩, nofun⟩

theorem starve_rxSound (h : RxSound s) (n : ChanId) (policy : Policy) (f : DataFrame)
    (hstate : (s.rxc n).state ≠ .disabled) : RxSound (s.starve n policy f).2 := by
  cases policy with
  | refuse => exact h
  | drop => exact dropSegment_rxSound h n f hstate

/-- A channel that holds a partial which can still grow. -/
theorem rxContextSound_assembling {c : RxChan} {p : Assembly} (hpart : c.part = some p) (hstate : c.state = .assembling)
    (hsource : c.source.isSome = true) (hcount : 1 ≤ p.count ∧ p.count ≤ Config.partialLimit)
    (hlength : p.length ≤ Config.bufferSize * p.count) (hdefn : c.defn.isSome = true)
    (hpatience : ∀ df, c.defn = some df → 1 ≤ df.patience ∧ df.patience ≤ 255) (hidle : c.idle = 0) :
    RxContextSound c := by
  have hbusy : c.busy = true := (c.busy_iff).mpr (.inl hstate)
  refine ⟨⟨fun _ => by rw [hpart]; rfl, fun _ => hstate⟩, by rw [hbusy, hsource], fun q hq => ?_, fun _ => hdefn,
    fun df hdf => ⟨(hpatience df hdf).1, (hpatience df hdf).2, fun _ => ?_⟩, fun _ => hidle⟩
  · obtain rfl : p = q := Option.some.inj (hpart.symm.trans hq)
    exact ⟨hcount.1, hcount.2, hlength⟩
  · rw [hidle]
    exact (hpatience df hdf).1

/-- The delivery of a partial of at most 16 segments with at most 64 bytes each (R6, R127). -/
theorem deliver_rxSound (h : RxSound s) (n : ChanId) {c : RxChan} {p : Assembly} (src : Station)
    (hdefn : c.defn = (s.rxc n).defn) (hpart : c.part = some p) (hstate : (s.rxc n).state ≠ .disabled)
    (hcount : 1 ≤ p.count ∧ p.count ≤ Config.chainLimit) (hlength : p.length ≤ Config.bufferSize * p.count) :
    RxSound ((s.setRx n c).deliver n src) := by
  have hc : RxContextSound (s.rxc n) := h.1.1 n
  obtain ⟨df, hdf⟩ := Option.isSome_iff_exists.mp (rxContextSound_defined hc hstate)
  have hrxc : (s.setRx n c).rxc n = c := by rw [State.rxc_setRx, if_pos rfl]
  have hset : DeliveredSizes ((s.setRx n c).setDesc p.head (deliveredRecord (s.desc p.head) src n c.label p)) := by
    intro d
    rw [State.desc_setDesc]
    split
    · refine fun _ => ⟨hlength.trans ?_, hcount⟩
      calc Config.bufferSize * p.count ≤ Config.bufferSize * Config.chainLimit := Nat.mul_le_mul_left _ hcount.2
        _ = 1024 := rfl
    · exact h.2 d
  have hpush := (Updates.refl (P := fun _ => False) ((s.setRx n c).setDesc p.head
    (deliveredRecord (s.desc p.head) src n c.label p))).pushChain df.delivery p.head
  have hdeliver : (s.setRx n c).deliver n src = (((s.setRx n c).setDesc p.head
      (deliveredRecord (s.desc p.head) src n c.label p)).pushChain df.delivery p.head).setRx n (c.atRest .idle) := by
    simp only [State.deliver, hrxc, hdefn, hdf, hpart]
    rfl
  rw [hdeliver]
  refine rxSound_replaced h n (fun m hm => ?_) (hpush.station_eq id) (hpush.deliveredSizes id hset) ?_
    fun hst => absurd (h.1.2 hst n) hstate
  · rw [State.rxc, hpush.rx_eq id]
    exact (State.rxc_setRx s n m c).trans (if_neg (Ne.symm hm))
  · refine rxContextSound_resting rfl rfl rfl rfl (fun _ => ?_) fun df' hdf' => ?_
    · change c.defn.isSome = true
      rw [hdefn, hdf]; rfl
    · exact rxContextSound_patience hc df' (hdefn ▸ hdf')

theorem storeSegment_rxSound (h : RxSound s) (n : ChanId) (d : DescId) (f : DataFrame) : RxSound (s.storeSegment n d f) := by
  refine ⟨h.1, fun e => ?_⟩
  unfold State.storeSegment
  rw [State.desc_setDesc]
  split
  · exact h.2 d
  · exact h.2 e

/-- A FIRST segment begins a partial, which LAST delivers at once (R121). -/
theorem acceptFirst_rxSound (h : RxSound s) (n : ChanId) (d : DescId) {f : DataFrame}
    (hf : f.payload.length ≤ Config.bufferSize) (hstate : (s.rxc n).state ≠ .disabled) :
    RxSound (s.acceptFirst n d f) := by
  have hstored := recordTally_rxSound (storeSegment_rxSound h n d f) n f
  have hc : RxContextSound (s.rxc n) := h.1.1 n
  refine ite_keeps (fun _ => ?_) fun _ => ?_
  · exact deliver_rxSound hstored n f.source rfl rfl hstate ⟨le_rfl, show 1 ≤ Config.chainLimit by decide⟩ (by simpa using hf)
  · refine rxSound_setRx hstored n ?_ fun hdisabled => absurd hdisabled hstate
    exact rxContextSound_assembling rfl rfl rfl ⟨le_rfl, show 1 ≤ Config.partialLimit by decide⟩
      (by simpa using hf)
      (rxContextSound_defined (c := s.rxc n) hc hstate) (rxContextSound_patience (c := s.rxc n) hc) rfl

/-- A later segment extends a partial of at most 14 segments, or LAST delivers what it makes (R118, R122). -/
theorem acceptNext_rxSound (h : RxSound s) (n : ChanId) {p : Assembly} (d : DescId) {f : DataFrame}
    (hf : f.payload.length ≤ Config.bufferSize) (hstate : (s.rxc n).state = .assembling) (hpart : (s.rxc n).part = some p)
    (hcount : f.last = false → p.count < Config.partialLimit) : RxSound (s.acceptNext n p d f) := by
  have hstored := recordTally_rxSound (storeSegment_rxSound h n d f) n f
  have hc : RxContextSound (s.rxc n) := h.1.1 n
  have hlinked : RxSound (((s.storeSegment n d f).recordTally n f).setDesc p.tail
      { ((s.storeSegment n d f).recordTally n f).desc p.tail with next := some d }) := by
    refine ⟨hstored.1, fun e => ?_⟩
    rw [State.desc_setDesc]
    split
    · exact hstored.2 p.tail
    · exact hstored.2 e
  have hsource : (s.rxc n).source.isSome = true := by
    rw [← hc.2.1]
    exact ((s.rxc n).busy_iff).mpr (.inl hstate)
  obtain ⟨hpos, hle, hlength⟩ := rxContextSound_part hc hpart
  have hlong : p.length + f.payload.length ≤ Config.bufferSize * (p.count + 1) := by
    rw [Nat.mul_succ]; omega
  have hdisabled : (s.rxc n).state ≠ .disabled := by rw [hstate]; decide
  refine ite_keeps (fun _ => ?_) fun hlast => ?_
  · refine deliver_rxSound hlinked n f.source rfl rfl hdisabled ⟨Nat.le_add_left 1 _, ?_⟩ hlong
    exact Nat.succ_le_succ hle
  · refine rxSound_setRx hlinked n ?_ fun hst => absurd hst hdisabled
    exact rxContextSound_assembling rfl hstate hsource ⟨Nat.le_add_left 1 _, hcount (Bool.not_eq_true _ ▸ hlast)⟩ hlong
      (rxContextSound_defined (c := s.rxc n) hc hdisabled) (rxContextSound_patience (c := s.rxc n) hc) rfl

theorem poolPop_rxSound (h : RxSound s) {q : QueueId} {d : DescId} (hpop : s.poolPop q = some (d, t)) : RxSound t :=
  ((Updates.refl (P := fun _ => False) s).poolPop hpop).rxSound id id h

theorem poolPop_rxc {q : QueueId} {d : DescId} (hpop : s.poolPop q = some (d, t)) (n : ChanId) : t.rxc n = s.rxc n := by
  rw [State.rxc, ((Updates.refl (P := fun _ => False) s).poolPop hpop).rx_eq id]
  rfl

theorem decideFirst_rxSound (h : RxSound s) (n : ChanId) (df : RxDef) {f : DataFrame}
    (hf : f.payload.length ≤ Config.bufferSize) (hstate : (s.rxc n).state ≠ .disabled) :
    RxSound (s.decideFirst n df f).2 := by
  unfold State.decideFirst
  split
  · exact starve_rxSound h n _ f hstate
  · next hpop => exact acceptFirst_rxSound (poolPop_rxSound h hpop) n _ hf (by rwa [poolPop_rxc hpop])

theorem decideNext_rxSound (h : RxSound s) (n : ChanId) (df : RxDef) {p : Assembly} {f : DataFrame}
    (hf : f.payload.length ≤ Config.bufferSize) (hstate : (s.rxc n).state = .assembling) (hpart : (s.rxc n).part = some p)
    (hcount : f.last = false → p.count < Config.partialLimit) : RxSound (s.decideNext n df p f).2 := by
  unfold State.decideNext
  split
  · exact starve_rxSound h n _ f (by rw [hstate]; decide)
  · next hpop =>
    exact acceptNext_rxSound (poolPop_rxSound h hpop) n _ hf (by rwa [poolPop_rxc hpop]) (by rwa [poolPop_rxc hpop]) hcount

/-- A segment of a discarded message (R123). -/
theorem discardNext_rxSound (h : RxSound s) (n : ChanId) (f : DataFrame) (hstate : (s.rxc n).state = .discarding) :
    RxSound (s.discardNext n f) := by
  have hc : RxContextSound (s.rxc n) := h.1.1 n
  have hdisabled : (s.rxc n).state ≠ .disabled := by rw [hstate]; decide
  unfold State.discardNext
  refine rxSound_setRx (recordTally_rxSound h n f) n ?_ fun hst => absurd hst hdisabled
  refine ite_keeps (Q := RxContextSound) (fun _ => ?_) fun _ => rxContextSound_progress hc true
  refine rxContextSound_resting rfl rfl ?_ rfl (fun _ => rxContextSound_defined (c := s.rxc n) hc hdisabled)
    (rxContextSound_patience (c := s.rxc n) hc)
  refine Option.eq_none_iff_forall_ne_some.mpr fun p hp => ?_
  have hpart := hc.1.mpr (by rw [show (s.rxc n).part = some p from hp]; rfl)
  rw [hstate] at hpart
  cases hpart

/-- Below the shape check a partial that goes on has fewer than 15 segments (R118). -/
theorem count_lt_of_shape {c : RxChan} {f : DataFrame} {p : Assembly} (hc : RxContextSound c)
    (hshape : ¬ shapeViolation c f = true) (hfirst : ¬ f.first = true) (hfrom : c.assemblingFrom f.source = true)
    (hpart : c.part = some p) (hlast : f.last = false) : p.count < Config.partialLimit := by
  obtain ⟨-, hle, -⟩ := rxContextSound_part hc hpart
  refine lt_of_le_of_ne hle fun hcount => hshape ?_
  simp [shapeViolation, hlast, Bool.not_eq_true _ ▸ hfirst, hfrom, hpart, hcount]

theorem replyDecision_rxSound (h : RxSound s) (n : ChanId) {f : DataFrame} (hf : f.payload.length ≤ Config.bufferSize) :
    RxSound (s.replyDecision n f).2 := by
  have hc : RxContextSound (s.rxc n) := h.1.1 n
  unfold State.replyDecision
  dsimp only
  split
  · exact h
  · next df _ =>
    split
    · exact h
    · next hopen =>
      have hstate : (s.rxc n).state ≠ .disabled := fun hst => hopen (.inl hst)
      split_ifs with hseen hshape hfirst hother hrestart hfrom hdiscard
      · exact ite_keeps (fun _ => rxSound_setRx h n (rxContextSound_progress hc true) id) fun _ => h
      · exact ite_keeps (fun _ => abandonTo_rxSound h n (.inl rfl) hstate) fun _ => h
      · exact h
      · refine decideFirst_rxSound (abandonTo_rxSound h n (.inl rfl) hstate) n df hf ?_
        rw [abandonTo_rxc, if_pos rfl]
        exact nofun
      · exact decideFirst_rxSound h n df hf hstate
      · split
        · next p hpart =>
          exact decideNext_rxSound h n df hf (by simpa using (Bool.and_eq_true_iff.mp hfrom).1) hpart
            (count_lt_of_shape hc hshape hfirst hfrom hpart)
        · exact h
      · exact discardNext_rxSound h n f (by simpa using (Bool.and_eq_true_iff.mp hdiscard).1)
      · exact h

/-! ## Turns and events -/

theorem txUpdates_rxSound (hu : Updates (· = .tx) s t) (h : RxSound s) : RxSound t := hu.rxSound (by decide) (by decide) h

theorem rxSound_kept : Kept RxSound where
  count _ h := h
  raise _ h := h
  tallies _ h := h
  line _ _ _ _ h := h
  port _ _ h := h
  request _ h := h
  roster _ _ h := h
  cursor _ _ _ h := h
  station fixed h := ⟨⟨h.1.1, fun hst => absurd hst (not_or.mpr fixed)⟩, h.2⟩
  patienceOf a n h := patienceOf_rxSound h a n
  sourceAbsent a n h := sourceAbsent_rxSound h a n
  chanOffline n h := chanOffline_rxSound h n
  answered n o _ := txUpdates_rxSound (.finishTearing (by rfl) (.applyOutcome (by rfl) (.refl _) n o) n)
  absenceTreatment a n := txUpdates_rxSound (.absenceTreatment (by rfl) (.refl _) a n)
  absence _ h := h
  interruptChan n := txUpdates_rxSound (.interruptChan (by rfl) (.refl _) n)
  advanceAbsence n := txUpdates_rxSound (.advanceAbsence (by rfl) (.refl _) n)
  take n _ := txUpdates_rxSound (.take (by rfl) (.refl _) n)
  sent _ h := h

theorem rxSound_answering (st : Status) (rs : List Byte) (h : RxSound s) : RxSound (s.answering st rs) := h

theorem rxSound_atPort {u : State} (h : RxSound s) (hu : s.station ≠ .starting → RxSound u) : RxSound (s.atPort u) :=
  ite_keeps (Q := RxSound) (fun _ => h) fun _ => ite_keeps (Q := RxSound) (fun _ => h) hu

theorem rxSound_withRx (h : RxSound s) {n : Byte} {act : ChanId → State}
    (hact : ∀ i, (s.rxc i).defn.isSome = true → ¬ (s.station = .starting ∨ s.station = .unconfigured) → RxSound (act i)) : RxSound (s.withRx n act) := by
  refine rxSound_atPort h fun hstart => ?_
  split
  · exact h
  · next i _ =>
    refine ite_keeps (Q := RxSound) (fun _ => h) fun hst => ite_keeps (Q := RxSound) (fun _ => h) fun hdefn =>
      hact i ?_ (not_or.mpr ⟨hstart, hst⟩)
    exact Option.isSome_iff_ne_none.mpr fun hnone => hdefn (by rw [hnone]; rfl)

/-- A channel opened, halted or disabled at rest (R133, R134, R137). -/
theorem atRest_rxSound (h : RxSound s) (n : ChanId) {st : RxState} (hst : st ≠ .assembling ∧ st ≠ .discarding)
    (hdefn : (s.rxc n).defn.isSome = true) (hdisabled : (s.rxc n).state = .disabled → st = .disabled) :
    RxSound (s.setRx n ((s.rxc n).atRest st)) :=
  rxSound_setRx h n (rxContextSound_atRest (h.1.1 n) hst (fun _ => hdefn) (s.rxc n).drops (s.rxc n).abandons) hdisabled

theorem Replaced.rxSound {c : Instr} (hu : Replaced c s t) (h : RxSound s) : RxSound t := by
  cases hu with
  | reset hc st hst =>
    refine ⟨⟨fun n => ?_, fun _ n => ?_⟩, fun d => ?_⟩
    · exact reset_rxc n ▸ rxContextSound_reset
    · change (State.reset.rxc n).state = _
      rw [reset_rxc]
      rfl
    · change (State.reset.desc d).status = _ → _
      rw [reset_desc]
      exact nofun
  | cleared _ hst => exact ⟨⟨h.1.1, fun _ => h.1.2 (.inl hst)⟩, h.2⟩
  | rx hst n df hdf =>
    have hdisabled := h.1.2 (.inr hst) n
    refine rxSound_setRx (c := { s.rxc n with defn := some df }) h n ?_ fun _ => hdisabled
    obtain ⟨hpart, hbusy, hcounts, -, -, hidle⟩ := h.1.1 n
    refine ⟨hpart, hbusy, hcounts, fun _ => rfl, fun df' hdf' => ?_, hidle⟩
    obtain rfl := Option.some.inj hdf'
    exact ⟨hdf.1, hdf.2, fun hb => absurd hdisabled (rxSound_busy_state (c := s.rxc n) hb)⟩
  | _ => exact h

/-- A teardown leaves the channel DISABLED with nothing held (R150). -/
theorem completeRxTeardown_rxSound (h : RxSound s) (n : ChanId) : RxSound (s.completeRxTeardown n) := by
  unfold State.completeRxTeardown
  split
  · exact h
  · have hrest : ∀ u, RxSound u → RxSound (u.setRx n ((u.rxc n).atRest .disabled)) := fun u hu =>
      rxSound_setRx hu n (rxContextSound_atRest (hu.1.1 n) (by decide) (fun hst => absurd rfl hst) _ _) fun _ => rfl
    exact hrest _ (Updates.rxSound ((((Updates.refl (P := fun _ => False) s).returnPartial n).pushMarker _ _ _
      _).clearTallyRow n) id id h)

/-- The receive side of ChannelContextsStaySound, for one command. -/
theorem exec_rxSound {c : Instr} (hc : replaces c = false) (h : RxSound s) (hexec : exec c s = .next t) : RxSound t := by
  cases hmoves : movesTurns c with
  | true => exact rxSound_kept.exec hmoves (fun _ _ f hf u hu => replyDecision_rxSound hu _ hf) h hexec
  | false =>
    cases c with
    | fix =>
      obtain rfl := Host.Outcome.next.inj hexec
      refine rxSound_atPort h fun _ => ite_keeps (Q := RxSound) (fun _ => ite_keeps (Q := RxSound)
        (fun _ => rxSound_answering _ _ ?_) fun _ => h) fun _ => h
      obtain ⟨hframe, -, hrxc⟩ := s.freeze_spec
      have hsizes : DeliveredSizes s.freeze := by rw [hframe]; exact h.2
      refine ⟨⟨fun n => ?_, fun hst n => ?_⟩, hsizes⟩
      · rw [hrxc]
        exact rxContextSound_resting rfl rfl rfl rfl (fun hst => absurd rfl hst)
          (rxContextSound_patience (c := s.rxc n) (h.1.1 n))
      · rw [hrxc]
        rfl
    | enableRx n =>
      obtain rfl := Host.Outcome.next.inj hexec
      refine rxSound_withRx h fun i hdefn hst => ite_keeps (Q := RxSound) (fun _ => rxSound_answering _ _ ?_) fun _ => h
      exact rxSound_replaced h i (fun _ _ => rfl) rfl h.2 (rxContextSound_atRest (h.1.1 i) (by decide) (fun _ => hdefn) _ _)
        fun hfresh => absurd hfresh hst
    | haltRx n =>
      obtain rfl := Host.Outcome.next.inj hexec
      refine rxSound_withRx h fun i hdefn _ => ?_
      split
      · exact h
      · exact h
      · next hidle =>
        exact rxSound_answering _ _ (atRest_rxSound h i (by decide) hdefn fun hst => by rw [hidle] at hst; cases hst)
      · next hst => exact rxSound_answering _ _ (abandonTo_rxSound h i (.inr rfl) (by rw [hst]; decide))
      · next hst => exact rxSound_answering _ _ (abandonTo_rxSound h i (.inr rfl) (by rw [hst]; decide))
    | clearRx n =>
      obtain rfl := Host.Outcome.next.inj hexec
      refine rxSound_withRx h fun i hdefn _ => ite_keeps (Q := RxSound) (fun hhalted => rxSound_answering _ _ ?_) fun _ => h
      exact atRest_rxSound h i (by decide) hdefn fun hst => by rw [hhalted] at hst; cases hst
    | teardownRx n =>
      obtain rfl := Host.Outcome.next.inj hexec
      refine rxSound_withRx h fun i hdefn _ => ite_keeps (Q := RxSound) (fun _ => h) fun _ => rxSound_answering _ _ ?_
      exact completeRxTeardown_rxSound h i
    | readCounters option =>
      obtain rfl := Host.Outcome.next.inj hexec
      refine rxSound_atPort h fun _ => ite_keeps (Q := RxSound) (fun _ => h) fun _ =>
        ite_keeps (Q := RxSound) (fun _ => rxSound_answering _ _ ?_) fun _ => h
      unfold State.clearCounters
      exact foldl_keeps (Q := RxSound) (fun u n hu => rxSound_setRx (c := (u.rxc n).countersCleared) hu n (hu.1.1 n) id) _
        (s := { s with counters := Counters.zero }) h
    | patienceExpiry n =>
      obtain rfl := Host.Outcome.next.inj hexec
      refine ite_keeps (Q := RxSound) (fun hdue => ?_) fun _ => h
      refine abandonTo_rxSound h n (.inl rfl) (rxSound_busy_state ?_)
      unfold State.patienceDue at hdue
      split at hdue
      · simp only [Bool.and_eq_true] at hdue
        obtain ⟨⟨⟨-, hfrom⟩, -⟩, -⟩ := hdue
        exact busyFrom_busy hfrom
      · cases hdue
    | _ =>
      exact (exec_updates (P := fun p => p = .tx ∨ p = .memory) hc (fun p hp => by
        simp_all [touches, movesTurns]) hexec).rxSound (by simp) (by simp) h

/-- Every step keeps receive contexts and delivered sizes. -/
theorem step_rxSound (h : RxSound s) (hstep : step s = .next t) : RxSound t := by
  obtain rfl | ⟨c, rest, hexec⟩ := step_cases hstep
  · obtain ⟨k, hk⟩ := idleTick_eq s
    rw [hk]
    exact h
  · have h : RxSound { s with pending := rest } := h
    cases hreplaces : replaces c with
    | true => exact (exec_replaced hreplaces hexec).rxSound h
    | false => exact exec_rxSound hreplaces h hexec

end Sys2Proof.Machine
end

section
/-! PROOFS. The transmit channels' contexts are kept by every step: what each treatment of the transmit engine makes of a
context, and that at most one segment is outstanding, only while its own turn lasts (R83 to R85, R87, R92, R93). -/

namespace Sys2Proof.Machine

open Sys2Proof.Safety

/-! ## What a treatment makes of one context -/

/-- A context once its message, if it has one, has ended with a status (R99). -/
def TxChan.endedWith (c : TxChan) (st : DescStatus) : TxChan :=
  if c.defn.isSome = true ∧ c.msg.isSome = true then c.ended st else c

theorem endMessage_txc (s : State) (n m : ChanId) (st : DescStatus) :
    (s.endMessage n st).txc m = if n = m then (s.txc n).endedWith st else s.txc m := by
  unfold State.endMessage TxChan.endedWith
  split
  · next df h hdf hmsg =>
    rw [State.txc_setTx, hdf, hmsg]
    simp only [Option.isSome_some, and_self, if_true]
    split
    · rfl
    · rw [handBack_frame]
      rfl
  · next hnone =>
    have hnot : ¬ ((s.txc n).defn.isSome = true ∧ (s.txc n).msg.isSome = true) := fun ⟨hd, hm⟩ => by
      obtain ⟨df, hdf⟩ := Option.isSome_iff_exists.mp hd
      obtain ⟨h, hmsg⟩ := Option.isSome_iff_exists.mp hm
      exact hnone df h hdf hmsg
    rw [if_neg hnot]
    split
    · next hnm => rw [hnm]
    · rfl

/-- A context once its message, if it has one, has failed with a status: the tally advances in doubt (R99, R100). -/
def TxChan.failedWith (c : TxChan) (st : DescStatus) : TxChan :=
  if c.msg.isSome && c.doubt then ({ c with tally := c.tally + 1 } : TxChan).endedWith st else c.endedWith st

theorem failMessage_txc (s : State) (n m : ChanId) (st : DescStatus) :
    (s.failMessage n st).txc m = if n = m then (s.txc n).failedWith st else s.txc m := by
  unfold State.failMessage TxChan.failedWith
  split
  · rw [endMessage_txc, State.advanceTally, State.txc_setTx, State.txc_setTx, if_pos rfl]
    split <;> simp_all
  · exact endMessage_txc s n m st

section
variable {c : TxChan} (h : TxContextSound c)
include h

theorem txContextSound_defined (hst : c.state ≠ .disabled) : c.defn.isSome = true := by
  obtain ⟨-, -, -, -, -, -, -, -, hdefn, -⟩ := h
  exact hdefn hst

theorem txContextSound_msg : c.msg.isSome = true ↔ c.state = .active ∨ c.state = .tearing := h.1

theorem txContextSound_msg_defined (hmsg : c.msg.isSome = true) : c.defn.isSome = true := by
  refine txContextSound_defined h fun hst => ?_
  obtain hactive | htearing := h.1.mp hmsg
  · rw [hst] at hactive; cases hactive
  · rw [hst] at htearing; cases htearing

theorem txContextSound_outstanding_msg (hout : c.outstanding = true) : c.msg.isSome = true := by
  obtain ⟨-, -, -, -, -, -, hnone, -⟩ := h
  refine Option.isSome_iff_ne_none.mpr fun hmsg => ?_
  obtain ⟨-, -, -, hsilent⟩ := hnone hmsg
  rw [hsilent] at hout
  cases hout

theorem txContextSound_tearing (hst : c.state = .tearing) : c.outstanding = true := by
  obtain ⟨-, -, -, -, -, -, -, -, -, htearing⟩ := h
  exact htearing hst

end

/-- A context that holds no message: its counts are 0 but for the absence count, which is 0 too in DISABLED and HALTED. -/
theorem txContextSound_empty {c : TxChan} (hst : c.state ≠ .active ∧ c.state ≠ .tearing) (hmsg : c.msg = none)
    (hcur : c.cur = none) (hattempts : c.attempts = 0) (hlaters : c.laters = 0) (hdoubt : c.doubt = false)
    (hout : c.outstanding = false) (habsence : c.absence < Config.absenceLimit)
    (hzero : c.state = .disabled ∨ c.state = .halted → c.absence = 0)
    (hdefn : c.state ≠ .disabled → c.defn.isSome = true) : TxContextSound c := by
  refine ⟨⟨fun hm => ?_, fun hs => ?_⟩, by rw [hmsg, hcur], by rw [hattempts]; decide, fun _ => by rw [hattempts]; decide,
    by rw [hlaters]; decide, habsence, fun _ => ⟨hattempts, hlaters, hdoubt, hout⟩, hzero, hdefn, fun ht => absurd ht hst.2⟩
  · rw [hmsg] at hm; cases hm
  · exact absurd hs (not_or.mpr hst)

/-- An ACTIVE channel's context: a message with a current segment, in the ranges. -/
theorem txContextSound_active {c : TxChan} (hst : c.state = .active) (hmsg : c.msg.isSome = true) (hcur : c.cur.isSome = true)
    (hattempts : c.attempts ≤ Config.attemptsLimit) (hbelow : c.outstanding = false → c.attempts < Config.attemptsLimit)
    (hlaters : c.laters < Config.latersLimit) (habsence : c.absence < Config.absenceLimit) (hdefn : c.defn.isSome = true) :
    TxContextSound c := by
  refine ⟨⟨fun _ => .inl hst, fun _ => hmsg⟩, by rw [hmsg, hcur], hattempts, hbelow, hlaters, habsence, fun hnone => ?_,
    fun hs => ?_, fun _ => hdefn, fun ht => ?_⟩
  · rw [hnone] at hmsg; cases hmsg
  · rw [hst] at hs; obtain h | h := hs <;> cases h
  · rw [hst] at ht; cases ht

/-- The end of a message leaves a context at rest, of a channel that is not TEARING and has nothing outstanding (R85, R99). -/
theorem txContextSound_ended {c : TxChan} (h : TxContextSound c) (htearing : c.state ≠ .tearing) (hmsg : c.msg.isSome = true)
    (tally : Tally) (st : DescStatus) :
    TxContextSound { (({ c with tally := tally } : TxChan).ended st) with outstanding := false } := by
  have hstate : stateAfterEnd { c with tally := tally } st = .halted ∨ stateAfterEnd { c with tally := tally } st = .idle := by
    unfold stateAfterEnd
    rw [if_neg htearing]
    split
    · exact .inl rfl
    · exact .inr rfl
  have habsence : c.absence < Config.absenceLimit := by
    obtain ⟨-, -, -, -, -, habsence, -⟩ := h
    exact habsence
  refine txContextSound_empty (c := { (({ c with tally := tally } : TxChan).ended st) with outstanding := false }) ?_ rfl rfl
    rfl rfl rfl rfl ?_ (fun hs => ?_) fun _ => txContextSound_msg_defined (c := c) h hmsg
  · change stateAfterEnd _ st ≠ _ ∧ stateAfterEnd _ st ≠ _
    obtain hs | hs := hstate <;> rw [hs] <;> decide
  · change (if stateAfterEnd { c with tally := tally } st = .halted then 0 else c.absence) < _
    split
    · decide
    · exact habsence
  · change (if stateAfterEnd { c with tally := tally } st = .halted then 0 else c.absence) = 0
    obtain hs' | hs' := hstate
    · rw [if_pos hs']
    · change stateAfterEnd { c with tally := tally } st = _ ∨ stateAfterEnd { c with tally := tally } st = _ at hs
      rw [hs'] at hs
      obtain h | h := hs <;> cases h

theorem TxChan.failedWith_of_msg {c : TxChan} (hdefn : c.defn.isSome = true) (hmsg : c.msg.isSome = true) (st : DescStatus) :
    c.failedWith st = ({ c with tally := if c.doubt then c.tally + 1 else c.tally } : TxChan).ended st := by
  unfold TxChan.failedWith TxChan.endedWith
  simp only [hdefn, hmsg, Bool.true_and, and_self, if_true]
  split_ifs <;> rfl

/-- A failure leaves a sound context with nothing outstanding, where nothing was outstanding. -/
theorem txContextSound_failedWith {c : TxChan} (h : TxContextSound c) (hout : c.outstanding = false) (st : DescStatus) :
    TxContextSound (c.failedWith st) ∧ (c.failedWith st).outstanding = false := by
  cases hmsg : c.msg.isSome with
  | false => 
    have hself : c.failedWith st = c := by simp [TxChan.failedWith, TxChan.endedWith, hmsg]
    rw [hself]
    exact ⟨h, hout⟩
  | true =>
    have htearing : c.state ≠ .tearing := fun ht => by
      rw [txContextSound_tearing h ht] at hout
      cases hout
    rw [TxChan.failedWith_of_msg (txContextSound_msg_defined h hmsg) hmsg]
    have hsound := txContextSound_ended h htearing hmsg (if c.doubt then c.tally + 1 else c.tally) st
    refine ⟨?_, hout⟩
    convert hsound using 1
    rw [← hout]
    rfl

/-! ## Contexts with nothing outstanding -/

/-- Every transmit context is sound, and before FIX none has left DISABLED. -/
def TxContexts (s : State) : Prop :=
  (∀ n, TxContextSound (s.txc n))
  ∧ (s.station = .starting ∨ s.station = .unconfigured → ∀ n, (s.txc n).state = .disabled)

/-- Sound contexts with nothing outstanding. -/
def TxIdle (s : State) : Prop := TxContexts s ∧ ∀ n, (s.txc n).outstanding = false

variable {s t : State}

theorem TxIdle.transmitSound (h : TxIdle s) : TransmitSound s := by
  have hnone : ∀ n, (s.txc n).outstanding ≠ true := fun n ho => by simp [h.2 n] at ho
  exact ⟨h.1.1, h.1.2, fun n _ ho => absurd ho (hnone n), fun n ho => absurd ho (hnone n)⟩

theorem Updates.txContexts {P : Part → Prop} (hu : Updates P s t) (htx : ¬ P .tx) (hstation : ¬ P .station)
    (h : TxContexts s) : TxContexts t := by
  unfold TxContexts State.txc
  rw [hu.tx_eq htx, hu.station_eq hstation]
  exact h

theorem Updates.txIdle {P : Part → Prop} (hu : Updates P s t) (htx : ¬ P .tx) (hstation : ¬ P .station) (h : TxIdle s) :
    TxIdle t := by
  refine ⟨hu.txContexts htx hstation h.1, fun n => ?_⟩
  rw [State.txc, hu.tx_eq htx]
  exact h.2 n

/-- One channel's context replaced by a sound one, before FIX a DISABLED one; the station's state and the others as before. -/
theorem txContexts_replaced (h : TxContexts s) (n : ChanId) (hothers : ∀ m, m ≠ n → t.txc m = s.txc m)
    (hstation : t.station = s.station) (hc : TxContextSound (t.txc n))
    (hnew : s.station = .starting ∨ s.station = .unconfigured → (t.txc n).state = .disabled) : TxContexts t := by
  refine ⟨fun m => ?_, fun hst m => ?_⟩
  · by_cases hm : m = n
    · exact hm ▸ hc
    · rw [hothers m hm]
      exact h.1 m
  · rw [hstation] at hst
    by_cases hm : m = n
    · exact hm ▸ hnew hst
    · rw [hothers m hm]
      exact h.2 hst m

theorem txIdle_replaced (h : TxIdle s) (n : ChanId) (hothers : ∀ m, m ≠ n → t.txc m = s.txc m)
    (hstation : t.station = s.station) (hc : TxContextSound (t.txc n) ∧ (t.txc n).outstanding = false)
    (hnew : s.station = .starting ∨ s.station = .unconfigured → (t.txc n).state = .disabled) : TxIdle t := by
  refine ⟨txContexts_replaced h.1 n hothers hstation hc.1 hnew, fun m => ?_⟩
  by_cases hm : m = n
  · exact hm ▸ hc.2
  · rw [hothers m hm]
    exact h.2 m

theorem txIdle_setTx (h : TxIdle s) (n : ChanId) {c : TxChan} (hc : TxContextSound c ∧ c.outstanding = false)
    (hdisabled : (s.txc n).state = .disabled → c.state = .disabled) : TxIdle (s.setTx n c) := by
  have hself : (s.setTx n c).txc n = c := by rw [State.txc_setTx, if_pos rfl]
  refine txIdle_replaced h n (fun m hm => ?_) rfl (by rwa [hself]) fun hst => by rw [hself]; exact hdisabled (h.1.2 hst n)
  rw [State.txc_setTx, if_neg (Ne.symm hm)]

theorem TxChan.failedWith_disabled {c : TxChan} (h : TxContextSound c) (hst : c.state = .disabled) (st : DescStatus) :
    c.failedWith st = c := by
  have hmsg : c.msg.isSome = false := by
    refine Bool.eq_false_iff.mpr fun hm => ?_
    have := h.1.mp hm
    rw [hst] at this
    obtain h | h := this <;> cases h
  simp [TxChan.failedWith, TxChan.endedWith, hmsg]

theorem failMessage_txIdle (h : TxIdle s) (n : ChanId) (st : DescStatus) : TxIdle (s.failMessage n st) := by
  have hself : (s.failMessage n st).txc n = (s.txc n).failedWith st := by rw [failMessage_txc, if_pos rfl]
  refine txIdle_replaced h n (fun m hm => ?_) ?_ ?_ fun hst => ?_
  · rw [failMessage_txc, if_neg (Ne.symm hm)]
  · rw [failMessage_frame]
  · rw [hself]
    exact txContextSound_failedWith (h.1.1 n) (h.2 n) st
  · rw [hself, TxChan.failedWith_disabled (h.1.1 n) (h.1.2 hst n)]
    exact h.1.2 hst n

/-! ## What keeps them -/

theorem txContextSound_absence {c : TxChan} (h : TxContextSound c) {k : Nat} (hk : k < Config.absenceLimit)
    (hzero : c.state = .disabled ∨ c.state = .halted → k = 0) : TxContextSound { c with absence := k } := by
  obtain ⟨hmsg, hcur, hattempts, hbelow, hlaters, -, hnone, -, hdefn, htearing⟩ := h
  exact ⟨hmsg, hcur, hattempts, hbelow, hlaters, hk, hnone, hzero, hdefn, htearing⟩

/-- A message started over (R102, R105). -/
theorem txContextSound_rewound {c : TxChan} (h : TxContextSound c) : TxContextSound c.rewound := by
  obtain ⟨hmsg, hcur, -, -, -, habsence, hnone, hzero, hdefn, htearing⟩ := h
  exact ⟨hmsg, rfl, Nat.zero_le _, fun _ => by change 0 < Config.attemptsLimit; decide, by change 0 < Config.latersLimit; decide, habsence,
    fun hm => ⟨rfl, rfl, rfl, (hnone hm).2.2.2⟩, hzero, hdefn, htearing⟩

theorem absenceTreatment_txIdle (h : TxIdle s) (a : Station) (n : ChanId) : TxIdle (s.absenceTreatment a n) := by
  unfold State.absenceTreatment
  split
  · exact h
  · exact ite_keeps (Q := TxIdle) (fun _ => ite_keeps (Q := TxIdle) (fun _ => failMessage_txIdle h n _) fun _ =>
      ite_keeps (Q := TxIdle) (fun _ => txIdle_setTx h n ⟨txContextSound_rewound (h.1.1 n), h.2 n⟩ id) fun _ => h)
      fun _ => h

theorem absence_txIdle (h : TxIdle s) (n : ChanId) : TxIdle (s.setTx n { s.txc n with absence := 0 }) :=
  txIdle_setTx h n ⟨txContextSound_absence (h.1.1 n) (by decide) fun _ => rfl, h.2 n⟩ id

theorem interruptChan_txIdle (h : TxIdle s) (n : ChanId) : TxIdle (s.interruptChan n) := by
  have hcount := absence_txIdle h n
  unfold State.interruptChan
  split
  · exact h
  · dsimp only
    generalize s.setTx n { s.txc n with absence := 0 } = u at hcount
    have hended : TxIdle (if (u.txc n).doubt then u.failMessage n .noAnswer else u.setTx n (u.txc n).rewound) :=
      ite_keeps (Q := TxIdle) (fun _ => failMessage_txIdle hcount n _) fun _ =>
        txIdle_setTx hcount n ⟨txContextSound_rewound (hcount.1.1 n), hcount.2 n⟩ id
    generalize (if (u.txc n).doubt then u.failMessage n .noAnswer else u.setTx n (u.txc n).rewound) = v at hended
    refine ite_keeps (Q := TxIdle) (fun _ => ?_) fun _ => hcount
    have hself : ({ v.txc n with outstanding := false } : TxChan) = v.txc n := by
      conv_rhs => rw [show v.txc n = { v.txc n with outstanding := (v.txc n).outstanding } from rfl, hended.2 n]
    rw [hself]
    exact txIdle_setTx hended n ⟨hended.1.1 n, hended.2 n⟩ id

theorem TxChan.failedWith_absence (c : TxChan) (k : Nat) (st : DescStatus) :
    ({ ({ c with absence := k } : TxChan).failedWith st with absence := 0 } : TxChan) = { c.failedWith st with absence := 0 } := by
  unfold TxChan.failedWith TxChan.endedWith
  simp only
  split_ifs <;> simp [TxChan.ended, stateAfterEnd]

/-- The message in hand, or the oldest entry waiting, has been returned ABSENT and the count is 0 (R103). -/
theorem absenceExpires_txc (s : State) (n m : ChanId) (df : TxDef) :
    (s.absenceExpires n df).txc m
      = if n = m then { (s.txc n).failedWith .absent with absence := 0 } else s.txc m := by
  have hreturned : ∀ k, (if (s.txc n).msg.isSome then s.failMessage n .absent
      else s.handBackOldest df.submit .absent df.station n).txc k
        = if n = k then (s.txc n).failedWith .absent else s.txc k := by
    intro k
    split
    · exact failMessage_txc s n k .absent
    · next hmsg =>
      have hself : (s.txc n).failedWith .absent = s.txc n := by simp [TxChan.failedWith, TxChan.endedWith, hmsg]
      rw [State.txc, ((Updates.refl (P := fun _ => False) s).handBackOldest df.submit .absent df.station n).tx_eq id, hself]
      split
      · next hnk => rw [hnk]; rfl
      · rfl
  unfold State.absenceExpires
  rw [State.txc_setTx]
  split
  · rw [hreturned, if_pos rfl]
  · next hnm => rw [hreturned, if_neg hnm]

/-- Below the limit the absence count rises; at the limit a message is returned and the count is 0 again (R103). -/
theorem advanceAbsence_sound {n : ChanId} (hc : TxContextSound (s.txc n)) (hout : (s.txc n).outstanding = false) :
    (TxContextSound ((s.advanceAbsence n).txc n) ∧ ((s.advanceAbsence n).txc n).outstanding = false)
    ∧ (∀ m, m ≠ n → (s.advanceAbsence n).txc m = s.txc m)
    ∧ ((s.txc n).state = .disabled → ((s.advanceAbsence n).txc n).state = .disabled) := by
  unfold State.advanceAbsence
  split
  · exact ⟨⟨hc, hout⟩, fun _ _ => rfl, id⟩
  · next df _ =>
    split
    · next hcounts =>
      have hstate : (s.txc n).state = .idle ∨ (s.txc n).state = .active := by
        simp only [State.countsAbsence, Bool.and_eq_true, Bool.or_eq_true, beq_iff_eq] at hcounts
        exact hcounts.1.1
      have hrest : (s.txc n).state = .disabled ∨ (s.txc n).state = .halted → False := fun hs => by
        obtain h1 | h1 := hstate <;> rw [h1] at hs <;> obtain h2 | h2 := hs <;> cases h2
      have hself : (s.setTx n { s.txc n with absence := (s.txc n).absence + 1 }).txc n
          = { s.txc n with absence := (s.txc n).absence + 1 } := by rw [State.txc_setTx, if_pos rfl]
      dsimp only
      split
      · have hafter := fun m => absenceExpires_txc (s.setTx n { s.txc n with absence := (s.txc n).absence + 1 }) n m df
        rw [hself, TxChan.failedWith_absence] at hafter
        obtain ⟨hfailed, hout'⟩ := txContextSound_failedWith hc hout .absent
        refine ⟨?_, fun m hm => ?_, fun hs => absurd (.inl hs) hrest⟩
        · rw [(hafter n).trans (if_pos rfl)]
          exact ⟨txContextSound_absence hfailed (by decide) fun _ => rfl, hout'⟩
        · rw [hafter, if_neg (Ne.symm hm), State.txc_setTx, if_neg (Ne.symm hm)]
      · next hbelow =>
        rw [hself] at hbelow ⊢
        refine ⟨⟨txContextSound_absence hc (not_le.mp hbelow) fun hs => (hrest hs).elim, hout⟩, fun m hm => ?_, id⟩
        rw [State.txc_setTx, if_neg (Ne.symm hm)]
    · exact ⟨⟨hc, hout⟩, fun _ _ => rfl, id⟩

theorem advanceAbsence_txIdle (h : TxIdle s) (n : ChanId) : TxIdle (s.advanceAbsence n) := by
  obtain ⟨hsound, hothers, hdisabled⟩ := advanceAbsence_sound (h.1.1 n) (h.2 n)
  have hstation := ((Updates.refl (P := (· = .tx)) s).advanceAbsence (by rfl) n).station_eq (by decide)
  exact txIdle_replaced h n hothers hstation hsound fun hfresh => hdisabled (h.1.2 hfresh n)

theorem take_txIdle (h : TxIdle s) (n : ChanId) (hidle : (s.txc n).state = .idle) : TxIdle (s.take n) := by
  unfold State.take
  split
  · exact h
  · next df hdf =>
    split
    · exact h
    · next hd rest _ =>
      refine ite_keeps (Q := TxIdle) (fun _ => ?_) fun _ => ?_
      · have hu := ((Updates.refl (P := fun _ => False) s).setQueue df.submit rest).setOwners (s.chain hd) (.transit n)
        have hcontexts := hu.txIdle id id h
        have hrxc : ((s.setQueue df.submit rest).setOwners (s.chain hd) (.transit n)).txc n = s.txc n := by
          rw [State.txc, hu.tx_eq id]; rfl
        refine txIdle_setTx hcontexts n ⟨?_, (congrArg TxChan.outstanding hrxc).trans (h.2 n)⟩ fun hs => ?_
        · obtain ⟨-, -, -, -, -, habsence, -⟩ := h.1.1 n
          refine txContextSound_active rfl rfl rfl (Nat.zero_le _) (fun _ => by change 0 < Config.attemptsLimit; decide)
            (by change 0 < Config.latersLimit; decide) ?_ ?_
          · rw [hrxc]; exact habsence
          · rw [hrxc, hdf]; rfl
        · rw [hrxc, hidle] at hs
          cases hs
      · exact ((Updates.refl (P := fun _ => False) s).handBackOldest _ _ _ _).raise _ |>.txIdle id id h

theorem txIdle_kept : StationKept TxIdle where
  count _ h := h
  raise _ h := h
  tallies _ h := h
  line _ _ _ _ h := h
  port _ _ h := h
  request _ h := h
  roster _ _ h := h
  cursor _ _ _ h := h
  station fixed h := ⟨⟨h.1.1, fun hst => absurd hst (not_or.mpr fixed)⟩, h.2⟩
  patienceOf a n := Updates.txIdle (P := (· = .rx)) (.patienceOf (by rfl) (.refl _) a n) (by decide) (by decide)
  sourceAbsent a n := Updates.txIdle (P := (· = .rx)) (.sourceAbsent (by rfl) (.refl _) a n) (by decide) (by decide)
  chanOffline n := Updates.txIdle (P := (· = .rx)) (.chanOffline (by rfl) (.refl _) n) (by decide) (by decide)
  answered n _ out h := by rw [h.2 n] at out; cases out
  absenceTreatment a n h := absenceTreatment_txIdle h a n
  absence n h := absence_txIdle h n
  interruptChan n h := interruptChan_txIdle h n
  advanceAbsence n h := advanceAbsence_txIdle h n
  take n idle h := take_txIdle h n idle

end Sys2Proof.Machine
end

section
/-! PROOFS. The outstanding segment: its outcome settles its channel's context, the request of a segment makes one
outstanding, and each turn end settles it before the next own turn starts (R83 to R85, R87, R92, R93, R109). -/

namespace Sys2Proof.Machine

open Sys2Proof.Safety

variable {s t : State}

/-! ## The outcome of the outstanding segment -/

/-- What the outcome of an outstanding segment leaves of a context: nothing outstanding, and a sound context unless the
channel is TEARING, whose teardown then completes. -/
structure Settled (c c' : TxChan) : Prop where
  nothingOut : c'.outstanding = false
  defn : c'.defn = c.defn
  sound : c'.state = .tearing ∨ TxContextSound c'

theorem settled_ended {c : TxChan} (h : TxContextSound c) (hmsg : c.msg.isSome = true) (tally : Tally) (st : DescStatus) :
    Settled c { (({ c with tally := tally } : TxChan).ended st) with outstanding := false } := by
  refine ⟨rfl, rfl, ?_⟩
  by_cases htearing : c.state = .tearing
  · exact .inl (if_pos htearing)
  · exact .inr (txContextSound_ended h htearing hmsg tally st)

/-- The message stays in hand, with the counts below their bounds. -/
theorem settled_inHand {c c' : TxChan} (h : TxContextSound c) (hmsg : c.msg.isSome = true) (hdefn : c'.defn = c.defn)
    (hstate : c'.state = c.state) (hmsg' : c'.msg = c.msg) (hcur : c'.cur.isSome = true)
    (hattempts : c'.attempts < Config.attemptsLimit) (hlaters : c'.laters < Config.latersLimit)
    (habsence : c'.absence = c.absence) (hout : c'.outstanding = false) : Settled c c' := by
  refine ⟨hout, hdefn, ?_⟩
  obtain hactive | htearing := (txContextSound_msg h).mp hmsg
  · refine .inr (txContextSound_active (hstate.trans hactive) (hmsg' ▸ hmsg) hcur hattempts.le (fun _ => hattempts) hlaters
      ?_ ?_)
    · obtain ⟨-, -, -, -, -, hlimit, -⟩ := h
      rwa [habsence]
    · rw [hdefn]
      exact txContextSound_msg_defined h hmsg
  · exact .inl (hstate.trans htearing)

theorem setTx_txc_self (s : State) (n : ChanId) (c : TxChan) : (s.setTx n c).txc n = c := by
  rw [State.txc_setTx, if_pos rfl]

theorem setTx_txc_other (s : State) {n m : ChanId} (c : TxChan) (h : m ≠ n) : (s.setTx n c).txc m = s.txc m := by
  rw [State.txc_setTx, if_neg (Ne.symm h)]

theorem failMessage_txc_self (s : State) {n : ChanId} (st : DescStatus) (hdefn : (s.txc n).defn.isSome = true)
    (hmsg : (s.txc n).msg.isSome = true) :
    (s.failMessage n st).txc n
      = ({ s.txc n with tally := if (s.txc n).doubt then (s.txc n).tally + 1 else (s.txc n).tally } : TxChan).ended st := by
  rw [failMessage_txc, if_pos rfl, TxChan.failedWith_of_msg hdefn hmsg]

theorem applyOutcome_other (s : State) {n m : ChanId} (o : Option ReplyCode) (h : m ≠ n) :
    (s.applyOutcome n o).txc m = s.txc m := by
  have hfail : ∀ u : State, ∀ st, (u.failMessage n st).txc m = u.txc m := fun u st => by
    rw [failMessage_txc, if_neg (Ne.symm h)]
  have htaken : (s.outcomeTaken n).txc m = s.txc m := by
    unfold State.outcomeTaken
    split
    · rw [endMessage_txc, if_neg (Ne.symm h)]
      exact setTx_txc_other s _ h
    · exact setTx_txc_other s _ h
  have hlater : (s.outcomeLater n).txc m = s.txc m := by
    unfold State.outcomeLater
    dsimp only
    split
    · rw [hfail, setTx_txc_other _ _ h]
    · rw [setTx_txc_other _ _ h]
  have hnone : (s.outcomeNone n).txc m = s.txc m := by
    unfold State.outcomeNone
    dsimp only
    split
    · rw [hfail, setTx_txc_other _ _ h]
      rfl
    · rw [setTx_txc_other _ _ h]
      rfl
  have heffect : (s.outcomeEffect n o).txc m = s.txc m := by
    match o with
    | some .taken => exact htaken
    | some .seen => exact htaken
    | some .later => exact hlater
    | some .closed => exact hfail s _
    | some .lost => exact hfail s _
    | none => exact hnone
  exact (setTx_txc_other _ _ h).trans heffect

theorem applyOutcome_self (s : State) (n : ChanId) (o : Option ReplyCode) :
    (s.applyOutcome n o).txc n = { (s.outcomeEffect n o).txc n with outstanding := false } :=
  setTx_txc_self _ _ _

/-- Each outcome of an outstanding segment settles its channel (R94 to R98). -/
theorem applyOutcome_settled {n : ChanId} (h : TxContextSound (s.txc n)) (hout : (s.txc n).outstanding = true)
    (o : Option ReplyCode) : Settled (s.txc n) ((s.applyOutcome n o).txc n) := by
  have hmsg := txContextSound_outstanding_msg h hout
  have hdefn := txContextSound_msg_defined h hmsg
  have hcur : (s.txc n).cur.isSome = true := by rw [h.2.1]; exact hmsg
  have hfail : ∀ st, Settled (s.txc n) { (s.failMessage n st).txc n with outstanding := false } := fun st => by
    rw [failMessage_txc_self s st hdefn hmsg]
    exact settled_ended h hmsg _ st
  have htaken : Settled (s.txc n) { (s.outcomeTaken n).txc n with outstanding := false } := by
    unfold State.outcomeTaken
    split
    · rw [endMessage_txc, if_pos rfl, State.advanceTally, setTx_txc_self, TxChan.endedWith, if_pos ⟨hdefn, hmsg⟩]
      exact settled_ended h hmsg _ _
    · next hlast =>
      rw [setTx_txc_self]
      refine settled_inHand h hmsg rfl rfl rfl ?_ (by change 0 < Config.attemptsLimit; decide)
        (by change 0 < Config.latersLimit; decide) rfl rfl
      change (s.nextSegment n).isSome = true
      unfold State.nextSegment
      unfold State.atLast at hlast
      split
      · next d hd =>
        rw [hd] at hlast
        exact Option.isSome_iff_ne_none.mpr fun hnone => hlast (by simp [hnone])
      · next d hd =>
        rw [hd] at hlast
        exact absurd rfl hlast
  rw [applyOutcome_self]
  match o with
  | some .taken => exact htaken
  | some .seen => exact htaken
  | some .closed => exact hfail _
  | some .lost => exact hfail _
  | some .later =>
    change Settled (s.txc n) { (s.outcomeLater n).txc n with outstanding := false }
    unfold State.outcomeLater
    dsimp only
    split
    · rw [failMessage_txc_self _ _ (by rwa [setTx_txc_self]) (by rwa [setTx_txc_self]), setTx_txc_self]
      exact settled_ended h hmsg _ _
    · next hbelow =>
      rw [setTx_txc_self] at hbelow ⊢
      exact settled_inHand h hmsg rfl rfl rfl hcur (by change 0 < Config.attemptsLimit; decide) (not_le.mp hbelow)
        rfl rfl
  | none =>
    change Settled (s.txc n) { (s.outcomeNone n).txc n with outstanding := false }
    unfold State.outcomeNone
    dsimp only
    split
    · rw [failMessage_txc_self _ _ (by rw [setTx_txc_self]; exact hdefn) (by rw [setTx_txc_self]; exact hmsg), setTx_txc_self]
      exact settled_ended h hmsg _ _
    · next hbelow =>
      rw [setTx_txc_self] at hbelow ⊢
      exact settled_inHand h hmsg rfl rfl rfl hcur (not_le.mp hbelow) h.2.2.2.2.1 rfl rfl

/-! ## Teardown -/

theorem completeTeardown_other (s : State) {n m : ChanId} (h : m ≠ n) : (s.completeTeardown n).txc m = s.txc m := by
  unfold State.completeTeardown
  split
  · rfl
  · next df _ =>
    rw [setTx_txc_other _ _ h]
    have hu := fun k total => ((Updates.refl (P := fun _ => False) (s.failMessage n .cancelled)).flush df.submit .cancelled
      df.station n k).pushMarker df.notice df.station n total
    rw [State.txc, (hu _ _).tx_eq id]
    exact (failMessage_txc s n m _).trans (if_neg (Ne.symm h))

theorem txContextSound_tornDown (c : TxChan) : TxContextSound c.tornDown :=
  txContextSound_empty (by change TxState.disabled ≠ _ ∧ TxState.disabled ≠ _; decide) rfl rfl rfl rfl rfl rfl
    (by change 0 < Config.absenceLimit; decide) (fun _ => rfl) fun hst => absurd rfl hst

theorem completeTeardown_self (s : State) {n : ChanId} (h : (s.txc n).defn.isSome = true) :
    ∃ c : TxChan, (s.completeTeardown n).txc n = c.tornDown ∧ c.defn = (s.txc n).defn := by
  obtain ⟨df, hdf⟩ := Option.isSome_iff_exists.mp h
  unfold State.completeTeardown
  rw [hdf]
  dsimp only
  refine ⟨_, setTx_txc_self _ _ _, ?_⟩
  have hu := fun k total => (((Updates.refl (P := (· = .tx)) s).failMessage (by rfl) n .cancelled).flush df.submit .cancelled
    df.station n k).pushMarker df.notice df.station n total
  rw [← hdf]
  exact (hu _ _).txDefn_eq n

/-- A DISABLED channel's context has nothing outstanding. -/
theorem completeTeardown_sound (s : State) {n : ChanId} (h : (s.txc n).defn.isSome = true) :
    (TxContextSound ((s.completeTeardown n).txc n) ∧ ((s.completeTeardown n).txc n).outstanding = false)
    ∧ ((s.completeTeardown n).txc n).state = .disabled := by
  obtain ⟨c, hc, -⟩ := completeTeardown_self s h
  rw [hc]
  exact ⟨⟨txContextSound_tornDown c, rfl⟩, rfl⟩

/-- The outcome of the only outstanding segment, with the completion of a teardown that waited for it, leaves nothing
outstanding (R93, R109). -/
theorem answered_txIdle {n : ChanId} (h : TxContexts s) (hout : (s.txc n).outstanding = true)
    (honly : ∀ m, m ≠ n → (s.txc m).outstanding = false) (o : Option ReplyCode) :
    TxIdle ((s.applyOutcome n o).finishTearing n) := by
  obtain ⟨hnone, hdefn, hsound⟩ := applyOutcome_settled (h.1 n) hout o
  have hmsg := txContextSound_outstanding_msg (h.1 n) hout
  have hdefined := txContextSound_msg_defined (h.1 n) hmsg
  have hstation := ((Updates.refl (P := (· = .tx)) s).applyOutcome (by rfl) n o).finishTearing (by rfl) n |>.station_eq
    (by decide)
  have hfresh : ¬ (s.station = .starting ∨ s.station = .unconfigured) := fun hst => by
    have := (txContextSound_msg (h.1 n)).mp hmsg
    rw [h.2 hst n] at this
    obtain h | h := this <;> cases h
  have hothers : ∀ m, m ≠ n → ((s.applyOutcome n o).finishTearing n).txc m = s.txc m := fun m hm => by
    unfold State.finishTearing
    split
    · rw [completeTeardown_other _ hm, applyOutcome_other s o hm]
    · exact applyOutcome_other s o hm
  have hself : TxContextSound (((s.applyOutcome n o).finishTearing n).txc n)
      ∧ (((s.applyOutcome n o).finishTearing n).txc n).outstanding = false := by
    unfold State.finishTearing
    split
    · exact (completeTeardown_sound _ (hdefn ▸ hdefined)).1
    · next htearing => exact ⟨hsound.resolve_left htearing, hnone⟩
  refine ⟨txContexts_replaced h n hothers hstation hself.1 fun hst => absurd hst hfresh, fun m => ?_⟩
  by_cases hm : m = n
  · exact hm ▸ hself.2
  · rw [hothers m hm]
    exact honly m hm

/-- Sound contexts with at most one segment outstanding, and only while the counter is at the own address. -/
structure TxOwned (s : State) : Prop where
  contexts : TxContexts s
  once : ∀ n m, (s.txc n).outstanding = true → (s.txc m).outstanding = true → n = m
  own : ∀ n, (s.txc n).outstanding = true → s.turn.counter = s.ownAddr

theorem transmitSound_owned (h : TransmitSound s) : TxOwned s := by
  obtain ⟨hcontexts, hfresh, honce, hout⟩ := h
  exact ⟨⟨hcontexts, hfresh⟩, honce, fun n hn => (hout n hn).2.1⟩

theorem TxIdle.owned (h : TxIdle s) : TxOwned s := transmitSound_owned h.transmitSound

theorem TxOwned.idle (h : TxOwned s) (hnone : ∀ n, (s.txc n).outstanding ≠ true) : TxIdle s :=
  ⟨h.contexts, fun n => Bool.eq_false_iff.mpr (hnone n)⟩

theorem TxOwned.idle_of_counter (h : TxOwned s) (hcounter : s.turn.counter ≠ s.ownAddr) : TxIdle s :=
  h.idle fun n hn => hcounter (h.own n hn)

theorem outstandingChan_none (h : s.outstandingChan = none) (n : ChanId) : (s.txc n).outstanding ≠ true :=
  List.find?_eq_none.mp h n (mem_allChans n)

/-- The end of the own turn settles the outstanding segment. -/
theorem ownTurnEnds_txIdle (h : TxContexts s)
    (honce : ∀ n m, (s.txc n).outstanding = true → (s.txc m).outstanding = true → n = m) (answer : Option Frame) :
    TxIdle (s.ownTurnEnds answer) := by
  unfold State.ownTurnEnds
  split
  · next hnone => exact ⟨h, fun n => Bool.eq_false_iff.mpr (outstandingChan_none hnone n)⟩
  · next n hn =>
    have hout : (s.txc n).outstanding = true := by simpa using List.find?_some hn
    exact answered_txIdle h hout (fun m hm => Bool.eq_false_iff.mpr fun ho => hm (honce m n ho hout)) _

end Sys2Proof.Machine
end

section
/-! PROOFS. The request of a segment at an own turn start, and the turns of the transmit engine: each turn end settles the
outstanding segment before the next own turn starts, so every step keeps the transmit contexts (R84, R87, R92, R93). -/

namespace Sys2Proof.Machine

open Sys2Proof.Safety

variable {s t : State}

/-! ## The request of a segment -/

/-- What stands between a state and an own turn's request: ONLINE at the own address, with no frame being sent. -/
structure AtOwnTurn (s : State) : Prop where
  online : s.station = .online
  counter : s.turn.counter = s.ownAddr
  notSending : ∀ g, s.line ≠ .sending g

theorem AtOwnTurn.engines (h : AtOwnTurn s) (hu : EngineUpdates s t) : AtOwnTurn t :=
  ⟨hu.station_eq ▸ h.online, by rw [hu.turn_eq, hu.ownAddr_eq]; exact h.counter, fun g => by
    rw [hu.line_eq]; exact h.notSending g⟩

theorem txContextSound_sent {c : TxChan} (h : TxContextSound c) (hactive : c.state = .active)
    (hout : c.outstanding = false) : TxContextSound { c with outstanding := true, attempts := c.attempts + 1 } := by
  obtain ⟨hmsg, hcur, -, hbelow, hlaters, habsence, -, -, hdefn, -⟩ := h
  have hheld := hmsg.mpr (.inl hactive)
  exact txContextSound_active (c := { c with outstanding := true, attempts := c.attempts + 1 }) hactive hheld
    (hcur.trans hheld) (hbelow hout) nofun hlaters habsence (hdefn (by rw [hactive]; decide))

/-- The DATA frame of an ACTIVE channel's current segment exists. -/
theorem dataFrame_isSome {n : ChanId} (h : TxContextSound (s.txc n)) (hactive : (s.txc n).state = .active) :
    ∃ f, s.dataFrame n = some f := by
  obtain ⟨hmsg, hcur, -, -, -, -, -, -, hdefn, -⟩ := h
  have hheld := hmsg.mpr (.inl hactive)
  obtain ⟨m, hm⟩ := Option.isSome_iff_exists.mp hheld
  obtain ⟨d, hd⟩ := Option.isSome_iff_exists.mp (hcur.trans hheld)
  obtain ⟨df, hdf⟩ := Option.isSome_iff_exists.mp (hdefn (by rw [hactive]; decide))
  unfold State.dataFrame
  rw [hm, hd, hdf]
  exact ⟨_, rfl⟩

theorem requestData_transmitSound (h : TxIdle s) (hat : AtOwnTurn s) {n : ChanId} (hactive : (s.txc n).state = .active)
    (hpresent : ∀ df, (s.txc n).defn = some df → (s.rosterOf df.station).state ≠ .absent) :
    TransmitSound (s.requestData n) := by
  obtain ⟨f, hf⟩ := dataFrame_isSome (h.1.1 n) hactive
  unfold State.requestData
  rw [hf]
  dsimp only
  have hsent := txContextSound_sent (h.1.1 n) hactive (h.2 n)
  have hfresh : ¬ (s.station = .starting ∨ s.station = .unconfigured) := by
    rw [hat.online]; rintro (h | h) <;> cases h
  have hcontexts : TxContexts (s.setTx n { s.txc n with outstanding := true, attempts := (s.txc n).attempts + 1 }) :=
    txContexts_replaced h.1 n (fun m hm => setTx_txc_other s _ hm) rfl (by rw [setTx_txc_self]; exact hsent)
      fun hst => absurd hst hfresh
  have honly : ∀ m, ((s.setTx n { s.txc n with outstanding := true, attempts := (s.txc n).attempts + 1 }).txc m).outstanding
      = true → m = n := fun m hm => by
    by_contra hne
    rw [setTx_txc_other s _ hne, h.2 m] at hm
    cases hm
  refine ⟨hcontexts.1, hcontexts.2, fun m k hm hk => (honly m hm).trans (honly k hk).symm, fun m hm => ?_⟩
  obtain rfl := honly m hm
  refine ⟨.inl hat.online, hat.counter, .inl ⟨f, rfl, hat.notSending⟩, fun df hdf => ?_⟩
  change ((s.setTx m { s.txc m with outstanding := true, attempts := (s.txc m).attempts + 1 }).txc m).defn = some df at hdf
  rw [setTx_txc_self] at hdf
  exact hpresent df hdf

/-- The scan chooses an ACTIVE channel whose destination is not ABSENT (R87, R88). -/
theorem scan_chosen (k e : Nat) {n : ChanId} (h : (s.scan k e).2 = some n) :
    ((s.scan k e).1.txc n).state = .active
    ∧ ∀ df, ((s.scan k e).1.txc n).defn = some df → ((s.scan k e).1.rosterOf df.station).state ≠ .absent := by
  induction k generalizing s e with
  | zero => cases h
  | succ k ih =>
    unfold State.scan at h ⊢
    split at h
    · exact ih _ h
    · next m _ =>
      split at h
      · next heligible =>
        have hu : Updates (· = .tx) s (if (s.txc m).state = .active then s else s.take m) :=
          .ite (fun _ => .refl s) fun _ => .take (by rfl) (.refl s) m
        have hpresent : ∀ df, ((if (s.txc m).state = .active then s else s.take m).txc m).defn = some df →
            ((if (s.txc m).state = .active then s else s.take m).rosterOf df.station).state ≠ .absent := by
          intro df hdf
          rw [hu.txDefn_eq] at hdf
          rw [State.rosterOf, hu.roster_eq (by decide)]
          simp only [State.eligible, hdf, State.isAbsent, Bool.and_eq_true, Bool.not_eq_true', beq_eq_false_iff_ne] at heligible
          exact heligible.1
        rw [if_pos heligible]
        dsimp only at h ⊢
        generalize (if (s.txc m).state = .active then s else s.take m) = u at h hpresent ⊢
        split at h
        · next hactive =>
          obtain rfl := Option.some.inj h
          rw [if_pos hactive]
          exact ⟨hactive, hpresent⟩
        · next hidle =>
          rw [if_neg hidle]
          exact ih _ h
      · next hnot =>
        rw [if_neg hnot]
        exact ih _ h

theorem scan_engines (hst : s.station ≠ .starting ∧ s.station ≠ .unconfigured) (k e : Nat) :
    EngineUpdates s (s.scan k e).1 := (engineUpdates_kept s).scan (Updates.refl s) hst k e

theorem ownTurnStarts_transmitSound (h : TxIdle s) (hat : AtOwnTurn s) : TransmitSound s.ownTurnStarts := by
  have hst : s.station ≠ .starting ∧ s.station ≠ .unconfigured := by rw [hat.online]; decide
  have hcounted : TxIdle (allChans.foldl State.advanceAbsence s) :=
    foldl_keeps (fun u n hu => txIdle_kept.advanceAbsence n hu) _ h
  have hat' := hat.engines (foldl_keeps (fun u n hu => (engineUpdates_kept s).advanceAbsence n hu) allChans (Updates.refl s))
  rw [← advanceAbsences_station s] at hst
  unfold State.ownTurnStarts
  generalize allChans.foldl State.advanceAbsence s = u at hcounted hat' hst
  have hscanned := txIdle_kept.scan hcounted hst u.cfg.length u.cursor
  have hat'' := hat'.engines (scan_engines hst u.cfg.length u.cursor)
  dsimp only
  unfold State.requestChosen
  split
  · next n hn =>
    obtain ⟨hactive, hpresent⟩ := scan_chosen _ _ hn
    exact requestData_transmitSound hscanned hat'' hactive hpresent
  · exact TxIdle.transmitSound hscanned

/-! ## Turns -/

/-- The state of a turn end's last part: the transmit contexts are sound, and a segment is outstanding only ONLINE. -/
structure TurnBegun (s : State) : Prop where
  sound : TransmitSound s
  idle : s.station ≠ .online → TxIdle s

theorem TxIdle.begun (h : TxIdle s) : TurnBegun s := ⟨h.transmitSound, fun _ => h⟩

theorem TxOwned.engineFrame (h : TxOwned s) (htx : t.tx = s.tx) (hstation : t.station = s.station)
    (hown : ∀ n, (t.txc n).outstanding = true → t.turn.counter = t.ownAddr) : TxOwned t := by
  refine ⟨?_, ?_, hown⟩
  · unfold TxContexts State.txc
    rw [htx, hstation]
    exact h.contexts
  · intro n m
    rw [State.txc, State.txc, htx]
    exact h.once n m

theorem turnPasses_txContexts (h : TxContexts s) : TxContexts s.turnPasses :=
  Updates.txContexts (P := (· = .rx)) (s := { s with turn := s.turn.advance }) (.countPatience (by rfl) (.refl _) _)
    (by decide) (by decide) h

theorem turnPasses_txc (s : State) (n : ChanId) : s.turnPasses.txc n = s.txc n := by
  rw [State.txc, (Updates.countPatience (P := (· = .rx)) (by rfl) (.refl { s with turn := s.turn.advance })
    s.turn.counter).tx_eq (t := s.turnPasses) (by decide)]
  rfl

/-- A turn end settles the outstanding segment: it is the own turn's, or there is none (R65, R93). -/
theorem turnPasses_told_txIdle (h : TxOwned s) (answer : Option Frame) :
    TxIdle (s.turnPasses.tellTransmit s.turn.counter answer) := by
  have hu : EngineUpdates { s with turn := s.turn.advance } s.turnPasses :=
    (engineUpdates_kept _).countPatience (Updates.refl _) _
  have hown : s.turnPasses.ownAddr = s.ownAddr := hu.ownAddr_eq
  unfold State.tellTransmit
  split
  · refine ownTurnEnds_txIdle (turnPasses_txContexts h.contexts) (fun n m => ?_) answer
    rw [turnPasses_txc, turnPasses_txc]
    exact h.once n m
  · next hother =>
    have hidle := h.idle_of_counter (hown ▸ hother)
    exact ⟨turnPasses_txContexts h.contexts, fun n => by rw [turnPasses_txc]; exact hidle.2 n⟩

theorem endTurn_txIdle (h : TxOwned s) (way : TurnWay) : TxIdle (s.endTurn way) := by
  have htold := turnPasses_told_txIdle h way.answer
  exact ite_keeps (Q := TxIdle) (fun _ => txIdle_kept.missTurn htold _) fun _ => htold

theorem endTurn_line (s : State) (way : TurnWay) : (s.endTurn way).line = s.line := by
  have hu : EngineUpdates { s with turn := s.turn.advance } (s.endTurn way) := by
    have htold := (engineUpdates_kept _).tellTransmit ((engineUpdates_kept { s with turn := s.turn.advance }).countPatience
      (Updates.refl _) s.turn.counter) s.turn.counter way.answer
    exact .ite (fun _ => (engineUpdates_kept _).missTurn htold _) fun _ => htold
  exact hu.line_eq

/-- An own turn start makes a segment outstanding only ONLINE at the own address. -/
theorem startOwnTurn_begun (h : TxIdle s) (hline : ∀ g, s.line ≠ .sending g) : TurnBegun s.startOwnTurn := by
  have hmark : TxIdle s.markOwnTurn := txIdle_kept.markOwnTurn h
  unfold State.startOwnTurn
  split
  · next hown =>
    obtain ⟨honline, hcounter⟩ := State.atOwnTurn_iff.mp hown.1
    have hat : AtOwnTurn s.markOwnTurn := by
      rw [State.markOwnTurn, if_pos hown.1]
      exact ⟨honline, hcounter, hline⟩
    have hst : s.markOwnTurn.station ≠ .starting ∧ s.markOwnTurn.station ≠ .unconfigured := by rw [hat.online]; decide
    have hu : EngineUpdates s.markOwnTurn s.markOwnTurn.ownTurnStarts :=
      (engineUpdates_kept _).ownTurnStarts (Updates.refl _) (fun n hu => hu.setTx (by decide) n _ rfl) hst
    exact ⟨ownTurnStarts_transmitSound hmark hat, fun hnot => absurd (hu.station_eq.trans hat.online) hnot⟩
  · exact hmark.begun

theorem TurnBegun.leaveAfter (h : TurnBegun s) (owner : Station) : TurnBegun (s.leaveAfter owner) := by
  unfold State.leaveAfter
  split
  · next hleaving => exact (txIdle_kept.goOffline (h.idle (by rw [hleaving.2]; decide))).begun
  · exact h

theorem turnEnd_begun (h : TxOwned s) (hline : ∀ g, s.line ≠ .sending g) (way : TurnWay) : TurnBegun (s.turnEnd way) :=
  (startOwnTurn_begun (endTurn_txIdle h way) fun g => by rw [endTurn_line]; exact hline g).leaveAfter _

/-- A PASS ends the turn it holds; any other frame opens a window and makes nothing outstanding. -/
theorem openTurn_begun (h : TxIdle s) (hline : ∀ g, s.line ≠ .sending g) (f : Frame) :
    TurnBegun (s.openTurn f) ∧ ((∀ a, f ≠ .pass a) → TxIdle (s.openTurn f)) := by
  unfold State.openTurn
  split
  · next a => exact ⟨turnEnd_begun h.owned hline _, fun hpass => absurd rfl (hpass a)⟩
  · exact ⟨(txIdle_kept.withTimer h _).begun, fun _ => txIdle_kept.withTimer h _⟩

theorem holdTurn_begun (h : TxIdle s) (hline : ∀ g, s.line ≠ .sending g) (inWindow : Bool) (f : Frame) :
    TurnBegun (s.holdTurn inWindow f) ∧ ((∀ a, f ≠ .pass a) → TxIdle (s.holdTurn inWindow f)) := by
  unfold State.holdTurn
  split
  · exact openTurn_begun (txIdle_kept.slipTo h _) hline f
  · exact openTurn_begun h hline f

/-! ## The roster -/

theorem afterHeard_outstanding (s : State) (a : Station) (c : TxChan) : (afterHeard s a c).outstanding = c.outstanding := by
  unfold afterHeard
  split <;> rfl

theorem afterHeard_state (s : State) (a : Station) (c : TxChan) : (afterHeard s a c).state = c.state := by
  unfold afterHeard
  split <;> rfl

theorem afterHeard_defn (s : State) (a : Station) (c : TxChan) : (afterHeard s a c).defn = c.defn := by
  unfold afterHeard
  split <;> rfl

theorem heardFrom_txContexts (h : TxContexts s) (a : Station) : TxContexts (s.heardFrom a) := by
  obtain ⟨hframe, -, htxc⟩ := heardFrom_spec s a
  refine ⟨fun n => ?_, fun hst n => ?_⟩
  · rw [htxc, afterHeard]
    split
    · exact txContextSound_absence (h.1 n) (by decide) fun _ => rfl
    · exact h.1 n
  · rw [hframe] at hst
    rw [htxc, afterHeard_state]
    exact h.2 hst n

/-- A station heard is PRESENT, so an outstanding segment's destination stays so. -/
theorem heardFrom_transmitSound (h : TransmitSound s) (a : Station) : TransmitSound (s.heardFrom a) := by
  obtain ⟨hcontexts, hfresh, honce, hout⟩ := h
  obtain ⟨hcontexts', hfresh'⟩ := heardFrom_txContexts ⟨hcontexts, hfresh⟩ a
  obtain ⟨hframe, hroster, htxc⟩ := heardFrom_spec s a
  refine ⟨hcontexts', hfresh', fun n m hn hm => ?_, fun n hn => ?_⟩
  · rw [htxc, afterHeard_outstanding] at hn hm
    exact honce n m hn hm
  · rw [htxc, afterHeard_outstanding] at hn
    obtain ⟨hstation, hcounter, hsegment, hpresent⟩ := hout n hn
    refine ⟨?_, ?_, ?_, fun df hdf => ?_⟩
    · rw [hframe]; exact hstation
    · rw [hframe]; exact hcounter
    · rw [hframe]; exact hsegment
    · rw [htxc, afterHeard_defn] at hdf
      rw [hroster, rosterAfter]
      split
      · nofun
      · exact hpresent df hdf

theorem TurnBegun.hearSource (h : TurnBegun s) (v : Option Frame) : TurnBegun (s.hearSource v) := by
  cases v with
  | none => exact h
  | some f =>
    refine ⟨heardFrom_transmitSound h.sound f.source, fun hnot => ?_⟩
    obtain ⟨hframe, -, -⟩ := heardFrom_spec s f.source
    have hidle := h.idle fun honline => hnot (by change (s.heardFrom f.source).station = _; rw [hframe]; exact honline)
    exact txIdle_kept.hearSource hidle (some f)

/-! ## Frames heard -/

theorem turnHolder_eq_some {v : Option Frame} {f : Frame} (h : turnHolder v = some f) : v = some f := by
  unfold turnHolder at h
  split at h
  · split at h
    · exact h
    · cases h
  · cases h

/-- A DATA frame holds a turn and is no PASS. -/
theorem holder_data_txIdle {u : State} {v : Option Frame} {f : Frame} (hv : turnHolder v = some f)
    (h : (∀ a, f ≠ .pass a) → TxIdle u) (g : DataFrame) (hdata : v = some (.data g)) : TxIdle u := by
  obtain rfl : f = .data g := Option.some.inj ((turnHolder_eq_some hv).symm.trans hdata)
  exact h nofun

theorem hearSource_line (s : State) (v : Option Frame) : (s.hearSource v).line = s.line :=
  ((engineUpdates_kept s).hearSource (Updates.refl s) v).line_eq

/-- The turn after the own one is another station's. -/
theorem succ_ne_self (a : Station) : a + 1 ≠ a := by
  revert a
  decide

/-- An own turn's answer settles its segment before anything else is sent; another station's turn has none (R64, R93). -/
theorem frameInWindow_answered_begun (h : TxOwned s) (hline : ∀ g, s.line ≠ .sending g) (v : Option Frame) :
    TurnBegun (((s.turnPasses.startOwnTurn).hearSource v).tellTransmit s.turn.counter v) := by
  have hu : EngineUpdates { s with turn := s.turn.advance } s.turnPasses :=
    (engineUpdates_kept _).countPatience (Updates.refl _) _
  by_cases hown : s.turn.counter = s.ownAddr
  · have hnot : s.turnPasses.atOwnTurn = false := by
      refine Bool.eq_false_iff.mpr fun hat => ?_
      have hcounter := (State.atOwnTurn_iff.mp hat).2
      rw [hu.turn_eq, hu.ownAddr_eq] at hcounter
      exact succ_ne_self s.turn.counter (hcounter.trans hown.symm)
    have hstart : s.turnPasses.startOwnTurn = s.turnPasses := by
      simp [State.startOwnTurn, State.markOwnTurn, hnot]
    rw [hstart]
    have hcontexts : TxContexts (s.turnPasses.hearSource v) ∧ ∀ n,
        ((s.turnPasses.hearSource v).txc n).outstanding = (s.txc n).outstanding := by
      cases v with
      | none => exact ⟨turnPasses_txContexts h.contexts, fun n => congrArg TxChan.outstanding (turnPasses_txc s n)⟩
      | some f =>
        refine ⟨heardFrom_txContexts (turnPasses_txContexts h.contexts) f.source, fun n => ?_⟩
        obtain ⟨-, -, htxc⟩ := heardFrom_spec s.turnPasses f.source
        change ((s.turnPasses.heardFrom f.source).txc n).outstanding = _
        rw [htxc, afterHeard_outstanding, turnPasses_txc]
    refine TxIdle.begun (ite_keeps (Q := TxIdle) (fun _ => ?_) fun hnot => ?_)
    · refine ownTurnEnds_txIdle hcontexts.1 (fun n m hn hm => ?_) v
      rw [hcontexts.2] at hn hm
      exact h.once n m hn hm
    · refine absurd ?_ hnot
      have hheard := (engineUpdates_kept _).hearSource hu v
      rw [hheard.ownAddr_eq]
      exact hown
  · have hidle : TxIdle s.turnPasses :=
      ⟨turnPasses_txContexts h.contexts, fun n => by rw [turnPasses_txc]; exact (h.idle_of_counter hown).2 n⟩
    have hbegun := (startOwnTurn_begun hidle fun g => by rw [hu.line_eq]; exact hline g).hearSource v
    have haddr : ((s.turnPasses.startOwnTurn).hearSource v).ownAddr = s.ownAddr := by
      have hkept := Updates.kept (P := fun _ => True) (fun _ _ => trivial) s.turnPasses
      exact (hkept.hearSource (hkept.startOwnTurn (Updates.refl _)) v).ownAddr_eq.trans hu.ownAddr_eq
    unfold State.tellTransmit
    rw [if_neg (by rw [haddr]; exact hown)]
    exact hbegun

theorem leaveAfter_txIdle (h : TxIdle s) (owner : Station) : TxIdle (s.leaveAfter owner) := txIdle_kept.leaveAfter h owner

theorem frameInWindow_begun (h : TxOwned s) (hline : ∀ g, s.line ≠ .sending g) (v : Option Frame) :
    TurnBegun (s.frameInWindow v) ∧ ∀ g, v = some (.data g) → TxIdle (s.frameInWindow v) := by
  unfold State.frameInWindow
  dsimp only
  cases hv : turnHolder v with
  | none =>
    refine ⟨(frameInWindow_answered_begun h hline v).leaveAfter _, fun g hg => ?_⟩
    rw [hg] at hv
    cases hv
  | some f =>
    have hheard : TxIdle (((s.endTurn (.byAnswer v)).markOwnTurn).hearSource v) :=
      txIdle_kept.hearSource (txIdle_kept.markOwnTurn (endTurn_txIdle h _)) v
    have hline' : ∀ g, (((s.endTurn (.byAnswer v)).markOwnTurn).hearSource v).line ≠ .sending g := fun g => by
      rw [hearSource_line]
      unfold State.markOwnTurn
      split <;> exact endTurn_line s _ ▸ hline g
    obtain ⟨hbegun, hdata⟩ := holdTurn_begun hheard hline' true f
    exact ⟨hbegun.leaveAfter _, fun g hg => leaveAfter_txIdle (holder_data_txIdle hv hdata g hg) _⟩

theorem frameInGap_begun (h : TxIdle s) (hline : ∀ g, s.line ≠ .sending g) (began : Began) (v : Option Frame) :
    TurnBegun (s.frameInGap began v) ∧ ∀ g, v = some (.data g) → TxIdle (s.frameInGap began v) := by
  have hheard : TxIdle (s.hearSource v) := txIdle_kept.hearSource h v
  unfold State.frameInGap
  dsimp only
  cases hv : turnHolder v with
  | none =>
    refine ⟨TxIdle.begun (ite_keeps (Q := TxIdle) (fun _ => txIdle_kept.withTimer hheard _) fun _ => hheard), fun g hg => ?_⟩
    rw [hg] at hv
    cases hv
  | some f =>
    obtain ⟨hbegun, hdata⟩ := holdTurn_begun hheard (fun g => by rw [hearSource_line]; exact hline g) false f
    exact ⟨hbegun, holder_data_txIdle hv hdata⟩

theorem adopt_begun (h : TxIdle s) (hline : ∀ g, s.line ≠ .sending g) (f : Frame) :
    TurnBegun (s.adopt f) ∧ ((∀ a, f ≠ .pass a) → TxIdle (s.adopt f)) := by
  unfold State.adopt
  have honline := txIdle_kept.withTurn (txIdle_kept.station (st := .online) (by decide) h) { s.turn with
      counter := f.source, ownTurn := false, timer := .stopped
      quiet := if s.turn.flavour = Flavour.joining then Config.quietTurns else 0 }
  exact openTurn_begun (txIdle_kept.heardFrom honline f.source)
    (fun g => by rw [show ∀ u : State, (u.heardFrom f.source).line = u.line from fun u => hearSource_line u (some f)]; exact hline g) f

/-- A frame end in a turn: in its window the outstanding segment is settled, elsewhere nothing is outstanding (R64). -/
theorem frameToTurns_begun (h : TxOwned s) (hline : ∀ g, s.line ≠ .sending g) (began : Began)
    (hidle : began ≠ .window ∨ s.station ≠ .online ∧ s.station ≠ .leaving → TxIdle s) (v : Option Frame) :
    TurnBegun (s.frameToTurns began v) ∧ ∀ g, v = some (.data g) → TxIdle (s.frameToTurns began v) := by
  have hturn : TurnBegun (s.frameInTurn began v) ∧ ∀ g, v = some (.data g) → TxIdle (s.frameInTurn began v) := by
    unfold State.frameInTurn
    split
    · exact frameInWindow_begun h hline v
    · next hbegan => exact frameInGap_begun (hidle (.inl hbegan)) hline began v
  unfold State.frameToTurns
  split
  · next hst =>
    have hquiet := hidle (.inr (by rw [hst]; decide))
    cases hv : turnHolder v with
    | none =>
      refine ⟨(txIdle_kept.withTimer hquiet _).begun, fun g hg => ?_⟩
      rw [hg] at hv
      cases hv
    | some f =>
      obtain ⟨hbegun, hdata⟩ := adopt_begun hquiet hline f
      exact ⟨hbegun, holder_data_txIdle hv hdata⟩
  · exact hturn
  · exact hturn
  · next hlistening honline hleaving =>
    have hquiet := hidle (.inr ⟨honline, hleaving⟩)
    exact ⟨hquiet.begun, fun _ _ => hquiet⟩

theorem frameEnds_transmitSound (h : TxOwned s) (hh : Heard)
    (hidle : hh.began ≠ .window ∨ s.station ≠ .online ∧ s.station ≠ .leaving → TxIdle s) (v : Option Frame)
    (hv : ∀ f, v = some (.data f) → f.payload.length ≤ Config.bufferSize) : TransmitSound (s.frameEnds hh v) := by
  unfold State.frameEnds
  dsimp only
  generalize hu : (if v = none ∧ hh.counted = true then ({ s with line := .quiet } : State).count .invalidHeard
    else { s with line := .quiet }) = u
  have hframe : u.tx = s.tx ∧ u.station = s.station ∧ u.turn = s.turn ∧ u.ownAddr = s.ownAddr ∧ u.line = .quiet := by
    rw [← hu]
    split <;> exact ⟨rfl, rfl, rfl, rfl, rfl⟩
  obtain ⟨htx, hstation, hturn, hown, hquiet⟩ := hframe
  have howned : TxOwned u := h.engineFrame htx hstation fun n hn => by
    rw [hturn, hown]
    rw [State.txc, htx] at hn
    exact h.own n hn
  obtain ⟨hbegun, hdata⟩ := frameToTurns_begun howned (fun g => by rw [hquiet]; exact nofun) hh.began (fun hc => by
    rw [hstation] at hc
    refine howned.idle fun n hn => ?_
    rw [State.txc, htx] at hn
    have hnone := (hidle hc).2 n
    rw [State.txc, hn] at hnone
    cases hnone) v
  generalize u.frameToTurns hh.began v = w at hbegun hdata
  unfold State.frameToEngines
  split
  · next f =>
    refine TxIdle.transmitSound (ite_keeps (Q := TxIdle) (fun _ => ?_) fun _ => hdata f rfl)
    exact txIdle_kept.request _ (Updates.txIdle (P := fun p => p = .rx ∨ p = .memory)
      (.replyDecision (by simp) (.refl w) (by simp) (hv f rfl) _) (by simp) (by simp) (hdata f rfl))
  · exact hbegun.sound

end Sys2Proof.Machine
end

section
/-! PROOFS. Every step keeps the transmit contexts, and so the contexts of all channels (R84, R85, R111). -/

namespace Sys2Proof.Machine

open Sys2Proof.Safety

variable {s t : State}

/-! ## States with nothing outstanding -/

theorem transmitSound_idle (h : TransmitSound s) (hnone : ∀ n, (s.txc n).outstanding ≠ true) : TxIdle s :=
  (transmitSound_owned h).idle hnone

/-- Outside ONLINE and LEAVING nothing is outstanding. -/
theorem transmitSound_idle_station (h : TransmitSound s) (hst : s.station ≠ .online ∧ s.station ≠ .leaving) : TxIdle s := by
  obtain ⟨-, -, -, hout⟩ := id h
  exact transmitSound_idle h fun n hn => absurd (hout n hn).1 (not_or.mpr hst)

/-- Nothing is outstanding where no DATA frame of the station is requested, sent or answered. -/
theorem transmitSound_idle_segment (h : TransmitSound s) (hno : ¬ segmentOut s) : TxIdle s := by
  obtain ⟨-, -, -, hout⟩ := id h
  refine transmitSound_idle h fun n hn => ?_
  obtain ⟨-, -, hsegment, -⟩ := hout n hn
  exact hno hsegment

/-- Another turn than the own one has nothing outstanding. -/
theorem transmitSound_idle_counter (h : TransmitSound s) (hcounter : s.turn.counter ≠ s.ownAddr) : TxIdle s :=
  (transmitSound_owned h).idle_of_counter hcounter

/-- A frame being sent that is no DATA frame leaves nothing outstanding. -/
theorem transmitSound_idle_sending (h : TransmitSound s) {f : Frame} (hline : s.line = .sending f) (hf : ∀ g, f ≠ .data g) :
    TxIdle s := by
  refine transmitSound_idle_segment h ?_
  rintro (⟨-, -, hnot⟩ | ⟨-, ⟨g, hg⟩ | ⟨hquiet, -⟩ | ⟨k, -, hheard⟩⟩)
  · exact hnot f hline
  · rw [hline] at hg
    exact hf g (Line.sending.inj hg)
  · rw [hline] at hquiet; cases hquiet
  · rw [hline] at hheard
    obtain h | h := hheard <;> cases h

/-- A frame heard outside a response window leaves nothing outstanding. -/
theorem transmitSound_idle_heard (h : TransmitSound s) {hh : Heard} (hline : s.line = .receiving hh ∨ s.line = .skipping hh)
    (hrequest : s.request = none) (hbegan : hh.began ≠ .window) : TxIdle s := by
  refine transmitSound_idle_segment h ?_
  rintro (⟨f, hf, -⟩ | ⟨-, ⟨g, hg⟩ | ⟨hquiet, -⟩ | ⟨k, hk, hheard⟩⟩)
  · rw [hrequest] at hf; cases hf
  · obtain hl | hl := hline <;> rw [hl] at hg <;> cases hg
  · obtain hl | hl := hline <;> rw [hl] at hquiet <;> cases hquiet
  · obtain hl | hl := hline <;> rw [hl] at hheard <;> obtain h | h := hheard <;> cases h <;> exact hbegan hk

/-- A listen or claim wait runs with nothing outstanding. -/
theorem transmitSound_idle_expiry (h : TransmitSound s) {m : Timer} (hexpires : s.canExpire m = true)
    (hm : m ≠ .responseWindow) : TxIdle s := by
  obtain ⟨-, ⟨hline, hrequest⟩, htimer⟩ := (State.canExpire_iff _ _).mp hexpires
  refine transmitSound_idle_segment h ?_
  rintro (⟨f, hf, -⟩ | ⟨-, ⟨g, hg⟩ | ⟨-, hwindow⟩ | ⟨k, -, hheard⟩⟩)
  · rw [hrequest] at hf; cases hf
  · rw [hline] at hg; cases hg
  · exact hm (htimer.symm.trans hwindow)
  · rw [hline] at hheard
    obtain h | h := hheard <;> cases h

/-! ## Changes that leave the outstanding segment out -/

/-- The line, the timer, the request or the station's state changed with the transmit channels as they were, the segment
staying out. -/
theorem transmitSound_reframe (h : TransmitSound s) (htx : t.tx = s.tx) (hroster : t.roster = s.roster)
    (hown : t.ownAddr = s.ownAddr) (hfresh : t.station = .starting ∨ t.station = .unconfigured → t.station = s.station)
    (hturns : s.station = .online ∨ s.station = .leaving → t.station = .online ∨ t.station = .leaving)
    (hcounter : t.turn.counter = s.turn.counter) (hsegment : segmentOut s → segmentOut t) : TransmitSound t := by
  obtain ⟨hcontexts, hdisabled, honce, hout⟩ := h
  have htxc : ∀ n, t.txc n = s.txc n := fun n => by rw [State.txc, htx]; rfl
  refine ⟨fun n => by rw [htxc]; exact hcontexts n, fun hst n => ?_, fun n m => ?_, fun n hn => ?_⟩
  · rw [htxc]
    exact hdisabled (hfresh hst ▸ hst) n
  · rw [htxc, htxc]
    exact honce n m
  · rw [htxc] at hn ⊢
    obtain ⟨hstation, hat, hseg, hpresent⟩ := hout n hn
    refine ⟨hturns hstation, by rw [hcounter, hown]; exact hat, hsegment hseg, fun df hdf => ?_⟩
    rw [State.rosterOf, hroster]
    exact hpresent df hdf

theorem Updates.transmitSound {P : Part → Prop} (hu : Updates P s t) (h : TransmitSound s)
    (hP : ∀ p, P p → p = .rx ∨ p = .cursor ∨ p = .memory) : TransmitSound t := by
  have hnot : ∀ p : Part, p ≠ .rx → p ≠ .cursor → p ≠ .memory → ¬ P p := fun p h1 h2 h3 hp => by
    obtain h | h | h := hP p hp
    · exact h1 h
    · exact h2 h
    · exact h3 h
  have hstation := hu.station_eq (hnot _ (by decide) (by decide) (by decide))
  have hturn := hu.turn_eq (hnot _ (by decide) (by decide) (by decide))
  refine transmitSound_reframe h (hu.tx_eq (hnot _ (by decide) (by decide) (by decide)))
    (hu.roster_eq (hnot _ (by decide) (by decide) (by decide))) hu.ownAddr_eq (fun _ => hstation) (fun hs => by rwa [hstation])
    (by rw [hturn]) fun hseg => ?_
  unfold segmentOut
  rw [hu.request_eq (hnot _ (by decide) (by decide) (by decide)), hturn,
    hu.line_eq (hnot _ (by decide) (by decide) (by decide))]
  exact hseg

/-- One channel gets a sound context with nothing outstanding; descriptors, queues and events may change with it. -/
theorem transmitSound_replaced (h : TransmitSound s) (hu : Updates (· = .tx) s t) (n : ChanId)
    (hothers : ∀ m, m ≠ n → t.txc m = s.txc m) (hc : TxContextSound (t.txc n) ∧ (t.txc n).outstanding = false)
    (hnew : s.station = .starting ∨ s.station = .unconfigured → (t.txc n).state = .disabled) : TransmitSound t := by
  obtain ⟨hcontexts, hfresh, honce, hout⟩ := h
  have hstation := hu.station_eq (by decide)
  obtain ⟨hcontexts', hfresh'⟩ := txContexts_replaced ⟨hcontexts, hfresh⟩ n hothers hstation hc.1 hnew
  have hne : ∀ m, (t.txc m).outstanding = true → m ≠ n := fun m hm hmn => by
    rw [hmn, hc.2] at hm; cases hm
  refine ⟨hcontexts', hfresh', fun m k hm hk => ?_, fun m hm => ?_⟩
  · rw [hothers m (hne m hm)] at hm
    rw [hothers k (hne k hk)] at hk
    exact honce m k hm hk
  · have hmn := hne m hm
    rw [hothers m hmn] at hm ⊢
    obtain ⟨hturns, hat, hseg, hpresent⟩ := hout m hm
    refine ⟨by rw [hstation]; exact hturns, by rw [hu.turn_eq (by decide), hu.ownAddr_eq]; exact hat, ?_, fun df hdf => ?_⟩
    · unfold segmentOut
      rw [hu.request_eq (by decide), hu.turn_eq (by decide), hu.line_eq (by decide)]
      exact hseg
    · rw [State.rosterOf, hu.roster_eq (by decide)]
      exact hpresent df hdf

theorem setTx_transmitSound (h : TransmitSound s) (n : ChanId) {c : TxChan} (hdefn : c.defn = (s.txc n).defn)
    (hc : TxContextSound c ∧ c.outstanding = false)
    (hnew : s.station = .starting ∨ s.station = .unconfigured → c.state = .disabled) : TransmitSound (s.setTx n c) :=
  transmitSound_replaced h (.setTx (by rfl) (.refl s) n c hdefn) n (fun m hm => setTx_txc_other s c hm)
    (by rwa [setTx_txc_self]) (by rwa [setTx_txc_self])

/-! ## Host commands -/

theorem transmitSound_answering (st : Status) (rs : List Byte) (h : TransmitSound s) : TransmitSound (s.answering st rs) := h

theorem transmitSound_atPort {u : State} (h : TransmitSound s) (hu : s.station ≠ .starting → TransmitSound u) :
    TransmitSound (s.atPort u) :=
  ite_keeps (Q := TransmitSound) (fun _ => h) fun _ => ite_keeps (Q := TransmitSound) (fun _ => h) hu

theorem transmitSound_withTx (h : TransmitSound s) {n : Byte} {act : ChanId → State}
    (hact : ∀ i, (s.txc i).defn.isSome = true → ¬ (s.station = .starting ∨ s.station = .unconfigured) →
      TransmitSound (act i)) : TransmitSound (s.withTx n act) := by
  refine transmitSound_atPort h fun hstart => ?_
  split
  · exact h
  · next i _ =>
    refine ite_keeps (Q := TransmitSound) (fun _ => h) fun hst => ite_keeps (Q := TransmitSound) (fun _ => h) fun hdefn =>
      hact i ?_ (not_or.mpr ⟨hstart, hst⟩)
    exact Option.isSome_iff_ne_none.mpr fun hnone => hdefn (by rw [hnone]; rfl)

theorem txContextSound_opened (c : TxChan) (h : c.defn.isSome = true) : TxContextSound c.opened :=
  txContextSound_empty (c := c.opened) (by change TxState.idle ≠ _ ∧ TxState.idle ≠ _; decide) rfl rfl rfl rfl rfl rfl
    (by change 0 < Config.absenceLimit; decide) (fun _ => rfl) fun _ => h

theorem opened_transmitSound (h : TransmitSound s) (n : ChanId) (hdefn : (s.txc n).defn.isSome = true)
    (hfresh : ¬ (s.station = .starting ∨ s.station = .unconfigured)) : TransmitSound (s.setTx n (s.txc n).opened) :=
  setTx_transmitSound h n rfl ⟨txContextSound_opened _ hdefn, rfl⟩
    fun hst => absurd hst hfresh

theorem completeTeardown_transmitSound (h : TransmitSound s) (n : ChanId) (hdefn : (s.txc n).defn.isSome = true) :
    TransmitSound (s.completeTeardown n) := by
  obtain ⟨hsound, hdisabled⟩ := completeTeardown_sound s hdefn
  exact transmitSound_replaced h (.completeTeardown (by rfl) (.refl s) n) n (fun m hm => completeTeardown_other s hm)
    hsound fun _ => hdisabled

/-- An ACTIVE channel with a segment outstanding waits for its outcome in TEARING (R142). -/
theorem tearing_transmitSound (h : TransmitSound s) (n : ChanId) (hactive : (s.txc n).state = .active)
    (hout : (s.txc n).outstanding = true) : TransmitSound (s.setTx n { s.txc n with state := .tearing }) := by
  obtain ⟨hcontexts, hfresh, honce, houts⟩ := h
  have houtstanding : ∀ m, ((s.setTx n { s.txc n with state := .tearing }).txc m).outstanding = (s.txc m).outstanding := by
    intro m
    rw [State.txc_setTx]
    split
    · next hnm => rw [← hnm]
    · rfl
  have hdefn : ∀ m, ((s.setTx n { s.txc n with state := .tearing }).txc m).defn = (s.txc m).defn := by
    intro m
    rw [State.txc_setTx]
    split
    · next hnm => rw [← hnm]
    · rfl
  obtain ⟨hmsg, hcur, hattempts, hbelow, hlaters, habsence, hnone, -, hsome, -⟩ := hcontexts n
  have hdefined := hsome (by rw [hactive]; decide)
  have hc : TxContextSound { s.txc n with state := .tearing } :=
    ⟨⟨fun _ => .inr rfl, fun _ => hmsg.mpr (.inl hactive)⟩, hcur, hattempts, hbelow, hlaters, habsence, hnone,
      (by rintro (h | h) <;> cases h), fun _ => hdefined, fun _ => hout⟩
  have hnot : ¬ (s.station = .starting ∨ s.station = .unconfigured) := fun hst => by
    rw [hfresh hst n] at hactive; cases hactive
  obtain ⟨hcontexts', hfresh'⟩ := txContexts_replaced ⟨hcontexts, hfresh⟩ n
    (fun m hm => setTx_txc_other s { s.txc n with state := .tearing } hm) rfl (by rwa [setTx_txc_self])
    fun hst => absurd hst hnot
  refine ⟨hcontexts', hfresh', fun m k hm hk => ?_, fun m hm => ?_⟩
  · rw [houtstanding] at hm hk
    exact honce m k hm hk
  · rw [houtstanding] at hm
    rw [hdefn]
    exact houts m hm

theorem Replaced.transmitSound {c : Instr} (hu : Replaced c s t) (h : TransmitSound s) : TransmitSound t := by
  cases hu with
  | reset hc st hst =>
    refine TxIdle.transmitSound ⟨⟨fun n => ?_, fun _ n => ?_⟩, fun n => ?_⟩
    · exact reset_txc n ▸ txContextSound_reset
    · change (State.reset.txc n).state = _
      rw [reset_txc]
      rfl
    · change (State.reset.txc n).outstanding = _
      rw [reset_txc]
      rfl
  | cleared _ hst =>
    have hidle := transmitSound_idle_station h (by rw [hst]; decide)
    exact TxIdle.transmitSound ⟨⟨h.1, fun _ => h.2.1 (.inl hst)⟩, hidle.2⟩
  | tx hst n df =>
    have hidle := transmitSound_idle_station h (by rw [hst]; decide)
    have hdisabled := h.2.1 (.inr hst) n
    refine TxIdle.transmitSound (txIdle_setTx (c := { s.txc n with defn := some df }) hidle n ⟨?_, hidle.2 n⟩ id)
    obtain ⟨hmsg, hcur, hattempts, hbelow, hlaters, habsence, hnone, hzero, -, htearing⟩ := h.1 n
    exact ⟨hmsg, hcur, hattempts, hbelow, hlaters, habsence, hnone, hzero, fun _ => rfl, htearing⟩
  | _ => exact h

theorem freeze_transmitSound (s : State) : TransmitSound s.freeze := by
  obtain ⟨hframe, htxc, -⟩ := s.freeze_spec
  have hst : s.freeze.station = .offline := by rw [hframe]
  refine TxIdle.transmitSound ⟨⟨fun n => ?_, fun hfresh => ?_⟩, fun n => ?_⟩
  · rw [htxc]
    exact txContextSound_empty (by change TxState.disabled ≠ _ ∧ TxState.disabled ≠ _; decide) rfl rfl rfl rfl rfl rfl
      (by change 0 < Config.absenceLimit; decide) (fun _ => rfl) fun hst => absurd rfl hst
  · rw [hst] at hfresh
    obtain h | h := hfresh <;> cases h
  · rw [htxc]
    rfl

/-! ## The events of the line -/

/-- A requested frame goes on the line: a DATA frame stays the outstanding one. -/
theorem ownFrameStart_segment {f : Frame} (hrequest : s.request = some f) (h : segmentOut s) : ∃ g, f = .data g := by
  obtain ⟨g, hg, -⟩ | ⟨hnone, -⟩ := h
  · exact ⟨g, Option.some.inj (hrequest.symm.trans hg)⟩
  · rw [hrequest] at hnone; cases hnone

theorem collide_transmitSound (h : TransmitSound s) {f : Frame} (hline : s.line = .sending f) :
    TransmitSound (s.collide f) := by
  have howned := transmitSound_owned h
  have hend : ∀ v : State, TxIdle v → TransmitSound (if Config.faultLimit ≤ v.turn.collided then v.goFault
      else if v.station = .leaving then v.goOffline else v.goResync) := fun v hv =>
    TxIdle.transmitSound (ite_keeps (Q := TxIdle) (fun _ => txIdle_kept.raise _ (txIdle_kept.goOffline hv)) fun _ =>
      ite_keeps (Q := TxIdle) (fun _ => txIdle_kept.goOffline hv) fun _ => txIdle_kept.goResync hv)
  have hcount : ∀ {u : State}, TxIdle u → TxIdle
      (({ u with turn := { u.turn with collided := u.turn.collided + 1 } }.count .collisions).lowNow) := fun hu =>
    txIdle_kept.lowNow (txIdle_kept.count _ (txIdle_kept.withTurn hu _))
  cases f with
  | data g =>
    refine hend _ (ownTurnEnds_txIdle ?_ ?_ none)
    · exact howned.contexts
    · exact howned.once
  | pass a => exact hend _ (hcount (transmitSound_idle_sending h hline nofun))
  | reply r => exact hend _ (hcount (transmitSound_idle_sending h hline nofun))

theorem ownFrameEnd_transmitSound (h : TransmitSound s) {f : Frame} (hline : s.line = .sending f) :
    TransmitSound ((s.lowBefore (encodeFrame f)).ownFrameEnds f) := by
  have hquiet : ∀ {u : State}, TxIdle u → TxIdle
      (({ u with line := .quiet, turn := { u.turn with collided := 0 } } : State).count (sentCounter f)) := fun {u} hu =>
    txIdle_kept.count _ (txIdle_kept.line { u.turn with collided := 0 } .quiet u.sinceLow u.rxdLow hu)
  have hturnEnd : TxIdle s → ∀ way, TransmitSound ((({ s.lowBefore (encodeFrame f) with
      line := .quiet, turn := { s.turn with collided := 0 } } : State).count (sentCounter f)).turnEnd way) := fun hs way =>
    (turnEnd_begun (hquiet (u := s.lowBefore (encodeFrame f)) hs).owned (fun _ hg => by cases hg) way).sound
  cases f with
  | pass a => exact hturnEnd (transmitSound_idle_sending h hline nofun) _
  | reply r => exact hturnEnd (transmitSound_idle_sending h hline nofun) _
  | data g =>
    refine transmitSound_reframe h rfl rfl rfl (fun _ => rfl) id rfl ?_
    rintro (⟨-, -, hnot⟩ | ⟨hrequest, -⟩)
    · exact absurd hline (hnot _)
    · exact .inr ⟨hrequest, .inr (.inl ⟨rfl, rfl⟩)⟩

theorem frameEnds_heard_transmitSound (h : TransmitSound s) {hh : Heard}
    (hline : s.line = .receiving hh ∨ s.line = .skipping hh) (hrequest : s.request = none) (v : Option Frame)
    (hv : ∀ f, v = some (.data f) → f.payload.length ≤ Config.bufferSize) : TransmitSound (s.frameEnds hh v) := by
  refine frameEnds_transmitSound (transmitSound_owned h) hh (fun hc => ?_) v hv
  obtain hbegan | hst := hc
  · exact transmitSound_idle_heard h hline hrequest hbegan
  · exact transmitSound_idle_station h hst

/-- The absence count of a channel rises: its destination is ABSENT, so it has nothing outstanding (R103). -/
theorem advanceAbsence_transmitSound (h : TransmitSound s) (n : ChanId) : TransmitSound (s.advanceAbsence n) := by
  cases hout : (s.txc n).outstanding with
  | false =>
    obtain ⟨hsound, hothers, hdisabled⟩ := advanceAbsence_sound (h.1 n) hout
    exact transmitSound_replaced h (.advanceAbsence (by rfl) (.refl s) n) n hothers hsound fun hst =>
      hdisabled (h.2.1 hst n)
  | true =>
    obtain ⟨-, -, -, houtstanding⟩ := id h
    obtain ⟨-, -, -, hpresent⟩ := houtstanding n hout
    have hself : s.advanceAbsence n = s := by
      unfold State.advanceAbsence
      split
      · rfl
      · next df hdf =>
        refine if_neg fun hcounts => ?_
        simp only [State.countsAbsence, State.isAbsent, Bool.and_eq_true, beq_iff_eq] at hcounts
        exact hpresent df hdf hcounts.1.2
    rw [hself]
    exact h

/-- The outstanding segment is the only one, so its limit settles the transmit contexts (R95, R98, R109). -/
theorem answered_transmitSound (h : TransmitSound s) {n : ChanId} (hout : (s.txc n).outstanding = true)
    (o : Option ReplyCode) : TransmitSound ((s.applyOutcome n o).finishTearing n) := by
  obtain ⟨hcontexts, hfresh, honce, -⟩ := h
  exact TxIdle.transmitSound (answered_txIdle ⟨hcontexts, hfresh⟩ hout
    (fun m hm => Bool.eq_false_iff.mpr fun ho => hm (honce m n ho hout)) o)

/-- The commands that move the station, its line or its turns keep the transmit contexts. -/
theorem exec_moves_transmitSound {c : Instr} (hc : movesTurns c = true) (h : TransmitSound s)
    (hexec : exec c s = .next t) : TransmitSound t := by
  cases c with
  | join =>
    obtain rfl := Host.Outcome.next.inj hexec
    refine transmitSound_atPort h fun _ => ite_keeps (Q := TransmitSound) (fun hst => transmitSound_answering _ _ ?_)
      fun _ => h
    exact TxIdle.transmitSound (txIdle_kept.joinLine (transmitSound_idle_station h (by rw [hst]; decide)))
  | leave =>
    obtain rfl := Host.Outcome.next.inj hexec
    refine transmitSound_atPort h fun _ => ?_
    split
    · next hst =>
      exact transmitSound_answering _ _ (TxIdle.transmitSound (txIdle_kept.goOffline (transmitSound_idle_station h
        (by rw [hst]; decide))))
    · split
      · refine transmitSound_answering _ _ (transmitSound_reframe h rfl rfl rfl ?_ (fun _ => .inr rfl) rfl id)
        rintro (h | h) <;> cases h
      · next hnone =>
        exact transmitSound_answering _ _ (TxIdle.transmitSound (txIdle_kept.goOffline (transmitSound_idle h
          (outstandingChan_none hnone))))
    · exact h
  | frameStart =>
    obtain rfl := Host.Outcome.next.inj hexec
    refine ite_keeps (Q := TransmitSound) (fun huse => ?_) fun _ => h
    refine transmitSound_reframe h rfl rfl rfl (fun _ => rfl) id rfl ?_
    rintro (⟨f, hf, -⟩ | ⟨hrequest, ⟨g, hg⟩ | ⟨-, htimer⟩ | ⟨k, -, hheard⟩⟩)
    · exact .inl ⟨f, hf, nofun⟩
    · rw [huse.2] at hg; cases hg
    · exact .inr ⟨hrequest, .inr (.inr ⟨_, by rw [htimer]; rfl, .inl rfl⟩)⟩
    · rw [huse.2] at hheard
      obtain h | h := hheard <;> cases h
  | frameEnd bytes =>
    obtain rfl := Host.Outcome.next.inj hexec
    split
    · next hh hline =>
      refine ite_keeps (Q := TransmitSound) (fun hready => ?_) fun _ => h
      exact frameEnds_heard_transmitSound (s := s.lowBefore bytes) h (.inl hline) hready.2 _
        fun f hf => payload_length_le (verdict_data hf)
    · exact h
  | idleFrameEnd =>
    obtain rfl := Host.Outcome.next.inj hexec
    refine ite_keeps (Q := TransmitSound) (fun hrequest => ?_) fun _ => h
    split
    · next hline => exact frameEnds_heard_transmitSound (s := s.idleExceeded) h (.inl hline) hrequest none nofun
    · next hline => exact frameEnds_heard_transmitSound (s := s.idleExceeded) h (.inr hline) hrequest none nofun
    · exact h
  | ownFrameStart =>
    obtain rfl := Host.Outcome.next.inj hexec
    split
    · next f hrequest =>
      refine transmitSound_reframe h rfl rfl rfl (fun _ => rfl) id rfl fun hseg => ?_
      obtain ⟨g, rfl⟩ := ownFrameStart_segment hrequest hseg
      exact .inr ⟨rfl, .inl ⟨g, rfl⟩⟩
    · exact h
  | ownFrameEnd =>
    obtain rfl := Host.Outcome.next.inj hexec
    split
    · next hline => exact ownFrameEnd_transmitSound h hline
    · exact h
  | collision =>
    obtain rfl := Host.Outcome.next.inj hexec
    split
    · next hline => exact collide_transmitSound h hline
    · exact h
  | fault =>
    obtain rfl := Host.Outcome.next.inj hexec
    split
    · next hline => exact ite_keeps (Q := TransmitSound) (fun _ => collide_transmitSound h hline) fun _ => h
    · exact h
  | responseWindowExpiry =>
    obtain rfl := Host.Outcome.next.inj hexec
    refine ite_keeps (Q := TransmitSound) (fun hexpires => ?_) fun _ => h
    obtain ⟨-, ⟨hline, -⟩, -⟩ := (State.canExpire_iff _ _).mp hexpires
    exact (turnEnd_begun (transmitSound_owned h) (fun g => by rw [hline]; nofun) _).sound
  | turnGapExpiry =>
    obtain rfl := Host.Outcome.next.inj hexec
    refine ite_keeps (Q := TransmitSound) (fun hexpires => ?_) fun _ => h
    obtain ⟨-, ⟨hline, -⟩, -⟩ := (State.canExpire_iff _ _).mp hexpires
    exact (turnEnd_begun (transmitSound_owned h) (fun g => by rw [hline]; nofun) _).sound
  | listenExpiry =>
    obtain rfl := Host.Outcome.next.inj hexec
    refine ite_keeps (Q := TransmitSound) (fun hexpires => ?_) fun _ => h
    exact TxIdle.transmitSound (txIdle_kept.withTimer (transmitSound_idle_expiry h hexpires (by decide)) _)
  | claimExpiry =>
    obtain rfl := Host.Outcome.next.inj hexec
    refine ite_keeps (Q := TransmitSound) (fun hexpires => ?_) fun _ => h
    have hidle := transmitSound_idle_expiry h hexpires (by decide)
    exact TxIdle.transmitSound (txIdle_kept.request _ (txIdle_kept.withTurn (txIdle_kept.station (st := .online)
      (by decide) hidle) _))
  | absenceCountLimit n =>
    obtain rfl := Host.Outcome.next.inj hexec
    exact ite_keeps (Q := TransmitSound) (fun _ => advanceAbsence_transmitSound h n) fun _ => h
  | attemptsLimit n =>
    obtain rfl := Host.Outcome.next.inj hexec
    exact ite_keeps (Q := TransmitSound) (fun hdue => answered_transmitSound h (State.attemptsDue_outstanding hdue) _)
      fun _ => h
  | latersLimit n =>
    obtain rfl := Host.Outcome.next.inj hexec
    exact ite_keeps (Q := TransmitSound) (fun hdue => answered_transmitSound h (State.latersDue_outstanding hdue) _)
      fun _ => h
  | rosterAbsent a =>
    obtain rfl := Host.Outcome.next.inj hexec
    refine ite_keeps (Q := TransmitSound) (fun hdue => ?_) fun _ => h
    simp only [State.absentDue, Bool.and_eq_true, beq_iff_eq, bne_iff_ne] at hdue
    obtain ⟨⟨⟨⟨-, hcounter⟩, hother⟩, -⟩, -⟩ := hdue
    exact TxIdle.transmitSound (txIdle_kept.missTurn (transmitSound_idle_counter h (by rw [hcounter]; exact hother)) a)
  | entryToSkipping cause =>
    obtain rfl := Host.Outcome.next.inj hexec
    split
    · next hh hline =>
      refine ite_keeps (Q := TransmitSound) (fun hready => ?_) fun _ => h
      refine transmitSound_reframe h rfl rfl rfl (fun _ => rfl) id rfl ?_
      rintro (⟨f, hf, -⟩ | ⟨hrequest, ⟨g, hg⟩ | ⟨hquiet, -⟩ | ⟨k, hk, hheard⟩⟩)
      · rw [hready.2] at hf; cases hf
      · rw [hline] at hg; cases hg
      · rw [hline] at hquiet; cases hquiet
      · rw [hline] at hheard
        obtain h | h := hheard
        · obtain rfl := Line.receiving.inj h
          exact .inr ⟨hrequest, .inr (.inr ⟨hh, hk, .inr rfl⟩)⟩
        · cases h
    · exact h
  | rxdLowWhileHeld stays =>
    obtain rfl := Host.Outcome.next.inj hexec
    exact ite_keeps (Q := TransmitSound) (fun _ => h) fun _ => h
  | _ => cases hc

/-- Every other command but those that replace blocks. -/
theorem exec_transmitSound {c : Instr} (hc : replaces c = false) (h : TransmitSound s) (hexec : exec c s = .next t) :
    TransmitSound t := by
  cases hmoves : movesTurns c with
  | true => exact exec_moves_transmitSound hmoves h hexec
  | false =>
    cases c with
    | fix =>
      obtain rfl := Host.Outcome.next.inj hexec
      exact transmitSound_atPort h fun _ => ite_keeps (Q := TransmitSound) (fun _ => ite_keeps (Q := TransmitSound)
        (fun _ => transmitSound_answering _ _ (freeze_transmitSound s)) fun _ => h) fun _ => h
    | enableTx n =>
      obtain rfl := Host.Outcome.next.inj hexec
      exact transmitSound_withTx h fun i hdefn hfresh => ite_keeps (Q := TransmitSound)
        (fun _ => transmitSound_answering _ _ (opened_transmitSound h i hdefn hfresh)) fun _ => h
    | clearTx n =>
      obtain rfl := Host.Outcome.next.inj hexec
      exact transmitSound_withTx h fun i hdefn hfresh => ite_keeps (Q := TransmitSound)
        (fun _ => transmitSound_answering _ _ (opened_transmitSound h i hdefn hfresh)) fun _ => h
    | teardownTx n =>
      obtain rfl := Host.Outcome.next.inj hexec
      refine transmitSound_withTx h fun i hdefn _ => ?_
      have hdone := transmitSound_answering .done [] (completeTeardown_transmitSound h i hdefn)
      split
      · exact h
      · exact h
      · exact hdone
      · exact hdone
      · next hactive =>
        exact ite_keeps (Q := TransmitSound) (fun hout => transmitSound_answering _ _
          (tearing_transmitSound h i hactive hout)) fun _ => hdone
    | _ =>
      exact (exec_updates (P := fun p => p = .rx ∨ p = .memory) hc (fun p hp => by
        simp_all [touches, movesTurns]) hexec).transmitSound h fun p hp => by tauto

theorem step_transmitSound (h : TransmitSound s) (hstep : step s = .next t) : TransmitSound t := by
  obtain rfl | ⟨c, rest, hexec⟩ := step_cases hstep
  · obtain ⟨k, hk⟩ := idleTick_eq s
    rw [hk]
    exact h
  · have h : TransmitSound { s with pending := rest } := h
    cases hreplaces : replaces c with
    | true => exact (exec_replaced hreplaces hexec).transmitSound h
    | false => exact exec_transmitSound hreplaces h hexec

/-- Settles O55: receive contexts and delivered sizes are kept by every treatment (`rxSound_kept`), transmit contexts because
each turn end settles the outstanding segment (`TurnBegun`). -/
theorem channelContextsStaySound : Obligations.ChannelContextsStaySound :=
  ⟨fun _ _ h hstep => step_rxSound h hstep, fun _ _ h hstep => step_transmitSound h hstep⟩

end Sys2Proof.Machine
end

section
/-! PROOFS. Who holds which chain: the heads that queues, messages and partials hold, beside descriptors that an operation
has in hand. Each operation takes chains out of the held ones and gives chains back (section 1.3, R7, R24). -/

namespace Sys2Proof.Machine

open Sys2Proof.Safety

variable {s t : State} {l : List DescId}

/-! ## Chains (R15) -/

theorem isChain_iff : isChain s l = true ↔ linked s l = true ∧ l.Nodup ∧ l.length ≤ Config.chainLimit := by
  simp only [isChain, Bool.and_eq_true, decide_eq_true_eq, and_assoc]

theorem linked_congr_next (h : ∀ e ∈ l, (t.desc e).next = (s.desc e).next) : linked t l = linked s l := by
  induction l with
  | nil => rfl
  | cons d l ih =>
    have hd := h d List.mem_cons_self
    have hl := ih fun e he => h e (List.mem_cons_of_mem d he)
    cases l with
    | nil => simp only [linked, hd]
    | cons e l => simp only [linked, hd, hl]

theorem isChain_congr_next (h : ∀ e ∈ l, (t.desc e).next = (s.desc e).next) : isChain t l = isChain s l := by
  simp only [isChain, linked_congr_next h]

theorem chain_eq_cons (s : State) (h : DescId) : ∃ l, s.chain h = h :: l := ⟨_, rfl⟩

theorem mem_chain_self (s : State) (h : DescId) : h ∈ s.chain h := List.mem_cons_self

/-- A whole chain whose links are untouched is the same chain. -/
theorem chain_eq_of_next {h : DescId} (hchain : isChain s (s.chain h) = true)
    (hnext : ∀ e ∈ s.chain h, (t.desc e).next = (s.desc e).next) : t.chain h = s.chain h := by
  rw [← isChain_congr_next hnext] at hchain
  obtain ⟨l, hl⟩ := chain_eq_cons s h
  rw [hl] at hchain ⊢
  exact chain_of_isChain t hchain

theorem linked_tail {d e : DescId} (h : linked s (d :: e :: l) = true) :
    (s.desc d).next = some e ∧ linked s (e :: l) = true := by
  simpa only [linked, Bool.and_eq_true, beq_iff_eq] using h

/-- The descriptor that a member of a chain names is a member too. -/
theorem linked_next_mem (h : linked s l = true) {d e : DescId} (hd : d ∈ l) (hnext : (s.desc d).next = some e) : e ∈ l := by
  induction l with
  | nil => cases hd
  | cons a l ih =>
    cases l with
    | nil =>
      obtain rfl := List.mem_singleton.mp hd
      simp [linked, hnext] at h
    | cons b l =>
      obtain ⟨hab, hl⟩ := linked_tail h
      obtain rfl | hd := List.mem_cons.mp hd
      · obtain rfl : b = e := Option.some.inj (hab.symm.trans hnext)
        exact List.mem_cons_of_mem _ List.mem_cons_self
      · exact List.mem_cons_of_mem a (ih hl hd)

/-! ## Chains owned as their holder says (R7) -/

/-- The chain is whole, and its head and members have the ownership states of its holder. -/
structure Owned (s : State) (o : Owner) (l : List DescId) : Prop where
  chain : isChain s l = true
  head : ∀ h, l.head? = some h → (s.desc h).owner = o
  members : ∀ d ∈ l.tail, (s.desc d).owner = memberOwner o
  held : o ≠ .host

theorem Owned.congr {o : Owner} (h : Owned s o l)
    (hd : ∀ e ∈ l, (t.desc e).next = (s.desc e).next ∧ (t.desc e).owner = (s.desc e).owner) : Owned t o l where
  chain := (isChain_congr_next fun e he => (hd e he).1).trans h.chain
  head e he := (hd e (List.mem_of_mem_head? he)).2.trans (h.head e he)
  members e he := (hd e (List.mem_of_mem_tail he)).2.trans (h.members e he)
  held := h.held

/-- No descriptor of such a chain is the host's. -/
theorem Owned.not_host {o : Owner} (h : Owned s o l) {d : DescId} (hd : d ∈ l) : (s.desc d).owner ≠ .host := by
  cases l with
  | nil => cases hd
  | cons e l =>
    obtain rfl | hd := List.mem_cons.mp hd
    · rw [h.head d rfl]
      exact h.held
    · rw [h.members d hd]
      have hheld := h.held
      cases o with
      | host => exact absurd rfl hheld
      | queued q => exact fun heq => by cases heq
      | linked => exact fun heq => by cases heq
      | transit n => exact fun heq => by cases heq
      | building n => exact fun heq => by cases heq

/-- The chains of the heads `H` are owned by their holders, no descriptor stands twice in them and in `A`, and every other
descriptor is the host's. -/
structure Holds (s : State) (H : List (Owner × DescId)) (A : List DescId) : Prop where
  owned : ∀ x ∈ H, Owned s x.1 (s.chain x.2)
  nodup : (A ++ H.flatMap fun x => s.chain x.2).Nodup
  cover : ∀ d, (s.desc d).owner ≠ .host → d ∈ A ++ H.flatMap fun x => s.chain x.2

namespace Holds

variable {H : List (Owner × DescId)} {A : List DescId}

theorem perm {H' : List (Owner × DescId)} {A' : List DescId} (hH : H.Perm H') (hA : A.Perm A') (h : Holds s H A) :
    Holds s H' A' := by
  have hall := hA.append (hH.flatMap_right fun x => s.chain x.2)
  exact ⟨fun x hx => h.owned x (hH.mem_iff.mpr hx), hall.nodup_iff.mp h.nodup, fun d hd => hall.mem_iff.mp (h.cover d hd)⟩

theorem release {o : Owner} {d : DescId} (h : Holds s ((o, d) :: H) A) : Holds s H (s.chain d ++ A) := by
  have hall : (A ++ ((o, d) :: H).flatMap fun x => s.chain x.2).Perm
      ((s.chain d ++ A) ++ H.flatMap fun x => s.chain x.2) := by
    rw [List.flatMap_cons, ← List.append_assoc]
    exact List.perm_append_comm.append_right _
  exact ⟨fun x hx => h.owned x (List.mem_cons_of_mem _ hx), hall.nodup_iff.mp h.nodup, fun e he =>
    hall.mem_iff.mp (h.cover e he)⟩

theorem hold {o : Owner} {d : DescId} (h : Holds s H (s.chain d ++ A)) (hd : Owned s o (s.chain d)) :
    Holds s ((o, d) :: H) A := by
  have hall : ((s.chain d ++ A) ++ H.flatMap fun x => s.chain x.2).Perm
      (A ++ ((o, d) :: H).flatMap fun x => s.chain x.2) := by
    rw [List.flatMap_cons, ← List.append_assoc]
    exact List.perm_append_comm.append_right _
  exact ⟨List.forall_mem_cons.mpr ⟨hd, h.owned⟩, hall.nodup_iff.mp h.nodup, fun e he => hall.mem_iff.mp (h.cover e he)⟩

theorem not_mem_loose (h : Holds s H A) {x : Owner × DescId} (hx : x ∈ H) {e : DescId} (he : e ∈ s.chain x.2) : e ∉ A :=
  fun hA => (List.nodup_append'.mp h.nodup).2.2 hA (List.mem_flatMap.mpr ⟨x, hx, he⟩)

/-- What changes loose descriptors alone leaves the held chains as they are. -/
theorem chain_eq (h : Holds s H A) (hd : ∀ e, e ∉ A → (t.desc e).next = (s.desc e).next) {x : Owner × DescId} (hx : x ∈ H) :
    t.chain x.2 = s.chain x.2 :=
  chain_eq_of_next (h.owned x hx).chain fun e he => hd e (h.not_mem_loose hx he)

theorem redesc (h : Holds s H A)
    (hd : ∀ e, e ∉ A → (t.desc e).next = (s.desc e).next ∧ (t.desc e).owner = (s.desc e).owner) : Holds t H A := by
  have hchain : (H.flatMap fun x => t.chain x.2) = H.flatMap fun x => s.chain x.2 :=
    List.flatMap_congr fun x hx => h.chain_eq (fun e he => (hd e he).1) hx
  refine ⟨fun x hx => ?_, hchain ▸ h.nodup, fun e he => ?_⟩
  · rw [h.chain_eq (fun e he => (hd e he).1) hx]
    exact (h.owned x hx).congr fun e he => hd e (h.not_mem_loose hx he)
  · rw [hchain]
    by_cases hA : e ∈ A
    · exact List.mem_append_left _ hA
    · exact h.cover e ((hd e hA).2 ▸ he)

/-- Descriptors of the host can be taken in hand. -/
theorem claim (h : Holds s H []) (hl : l.Nodup) (hown : ∀ d ∈ l, (s.desc d).owner = .host) : Holds s H l := by
  refine ⟨h.owned, hl.append h.nodup fun e he hH => ?_, fun e he => List.mem_append_right _ (h.cover e he)⟩
  obtain ⟨x, hx, hmem⟩ := List.mem_flatMap.mp hH
  exact (h.owned x hx).not_host hmem (hown e he)

/-- Loose descriptors that are the host's need not be kept in hand. -/
theorem letGo (h : Holds s H (l ++ A)) (hown : ∀ d ∈ l, (s.desc d).owner = .host) : Holds s H A := by
  refine ⟨h.owned, ?_, fun e he => ?_⟩
  · have hn := h.nodup
    rw [List.append_assoc] at hn
    exact (List.nodup_append'.mp hn).2.1
  · have hmem := h.cover e he
    rw [List.append_assoc] at hmem
    exact (List.mem_append.mp hmem).resolve_left fun hl => he (hown e hl)

end Holds

/-! ## The heads of a state -/

/-- The heads on a queue, with their ownership state (R8). -/
def queueHeads (q : QueueId) (l : List DescId) : List (Owner × DescId) := l.map fun h => (.queued q, h)

/-- The head of the message in hand of TXn (R9). -/
def messageHeads (n : ChanId) (msg : Option DescId) : List (Owner × DescId) := msg.toList.map fun h => (.transit n, h)

/-- The head of the partial of RXn (R11). -/
def partialHeads (n : ChanId) (part : Option Assembly) : List (Owner × DescId) :=
  part.toList.map fun p => (.building n, p.head)

/-- The heads of every chain that is held, with their ownership states. -/
def heads (s : State) : List (Owner × DescId) :=
  (allQueues.flatMap fun q => queueHeads q (s.queue q))
    ++ (allChans.flatMap fun n => messageHeads n (s.txc n).msg)
    ++ allChans.flatMap fun n => partialHeads n (s.rxc n).part

theorem heldChains_eq (s : State) : heldChains s = (heads s).map fun x => (x.1, s.chain x.2) := by
  simp only [heldChains, heads, queueHeads, messageHeads, partialHeads, List.map_append, List.map_flatMap, List.map_map]
  rfl

theorem heads_congr (hq : t.queues = s.queues) (htx : ∀ n, (t.txc n).msg = (s.txc n).msg)
    (hrx : ∀ n, (t.rxc n).part = (s.rxc n).part) : heads t = heads s := by
  have hqueue : ∀ q, t.queue q = s.queue q := fun q => congrArg (fun v => look v q) hq
  simp only [heads, hqueue, htx, hrx]

/-- One index of a list without repeats can be taken out of a union over it; the rest does not depend on it. -/
theorem flatMap_extract {α β : Type} [DecidableEq α] {L : List α} (hL : L.Nodup) {a : α} (ha : a ∈ L) (f : α → List β) :
    ∃ X : List β, ∀ g : α → List β, (∀ b, b ≠ a → g b = f b) → (L.flatMap g).Perm (g a ++ X) := by
  refine ⟨(L.erase a).flatMap f, fun g hg => ?_⟩
  have hrest : (L.erase a).flatMap g = (L.erase a).flatMap f :=
    List.flatMap_congr fun b hb => hg b ((hL.mem_erase_iff).mp hb).1
  rw [← hrest]
  exact (List.perm_cons_erase ha).flatMap_right g

theorem heads_setQueue (s : State) (q : QueueId) :
    ∃ X, (heads s).Perm (queueHeads q (s.queue q) ++ X) ∧ ∀ l, (heads (s.setQueue q l)).Perm (queueHeads q l ++ X) := by
  obtain ⟨X, hX⟩ := flatMap_extract (List.nodup_finRange 32) (List.mem_finRange q) fun q => queueHeads q (s.queue q)
  have hout : ∀ {Q M R N : List (Owner × DescId)}, Q.Perm (N ++ X) → (Q ++ M ++ R).Perm (N ++ (X ++ (M ++ R))) := by
    intro Q M R N h
    rw [List.append_assoc, ← List.append_assoc N]
    exact h.append_right _
  refine ⟨X ++ ((allChans.flatMap fun n => messageHeads n (s.txc n).msg)
    ++ allChans.flatMap fun n => partialHeads n (s.rxc n).part), hout (hX _ fun _ _ => rfl), fun l => ?_⟩
  have hl := hX (fun r => queueHeads r ((s.setQueue q l).queue r)) fun r hr => by
    rw [State.queue_setQueue, if_neg (Ne.symm hr)]
  rw [State.queue_setQueue, if_pos rfl] at hl
  exact hout hl

theorem heads_setTx (s : State) (n : ChanId) :
    ∃ X, (heads s).Perm (messageHeads n (s.txc n).msg ++ X)
      ∧ ∀ c, (heads (s.setTx n c)).Perm (messageHeads n c.msg ++ X) := by
  obtain ⟨X, hX⟩ := flatMap_extract allChans_nodup (mem_allChans n) fun m => messageHeads m (s.txc m).msg
  have hout : ∀ {Q M R N : List (Owner × DescId)}, M.Perm (N ++ X) → (Q ++ M ++ R).Perm (N ++ (X ++ (Q ++ R))) := by
    intro Q M R N h
    calc (Q ++ M ++ R).Perm (M ++ Q ++ R) := List.perm_append_comm.append_right R
      _ = M ++ (Q ++ R) := List.append_assoc _ _ _
      _ |>.Perm (N ++ X ++ (Q ++ R)) := h.append_right _
      _ = N ++ (X ++ (Q ++ R)) := List.append_assoc _ _ _
  refine ⟨X ++ ((allQueues.flatMap fun q => queueHeads q (s.queue q))
    ++ allChans.flatMap fun m => partialHeads m (s.rxc m).part), hout (hX _ fun _ _ => rfl), fun c => ?_⟩
  have hc := hX (fun m => messageHeads m ((s.setTx n c).txc m).msg) fun m hm => by
    rw [State.txc_setTx, if_neg (Ne.symm hm)]
  rw [State.txc_setTx, if_pos rfl] at hc
  exact hout hc

theorem heads_setRx (s : State) (n : ChanId) :
    ∃ X, (heads s).Perm (partialHeads n (s.rxc n).part ++ X)
      ∧ ∀ c, (heads (s.setRx n c)).Perm (partialHeads n c.part ++ X) := by
  obtain ⟨X, hX⟩ := flatMap_extract allChans_nodup (mem_allChans n) fun m => partialHeads m (s.rxc m).part
  have hout : ∀ {Q M N : List (Owner × DescId)}, M.Perm (N ++ X) → (Q ++ M).Perm (N ++ (X ++ Q)) := by
    intro Q M N h
    rw [← List.append_assoc]
    exact List.perm_append_comm.trans (h.append_right Q)
  refine ⟨X ++ ((allQueues.flatMap fun q => queueHeads q (s.queue q))
    ++ allChans.flatMap fun m => messageHeads m (s.txc m).msg), hout (hX _ fun _ _ => rfl), fun c => ?_⟩
  have hc := hX (fun m => partialHeads m ((s.setRx n c).rxc m).part) fun m hm => by
    rw [State.rxc_setRx, if_neg (Ne.symm hm)]
  rw [State.rxc_setRx, if_pos rfl] at hc
  exact hout hc

end Sys2Proof.Machine
end

section
/-! PROOFS. The ownership invariant with descriptors in hand, and its rules: take an entry off a queue, add one, end or begin
a message or a partial, change a descriptor in hand (R7, R24, R84, R111). -/

namespace Sys2Proof.Machine

open Sys2Proof.Safety

variable {s t : State} {A : List DescId}

/-- What a transmit context says of chains: an IDLE channel has no message, and a current segment is in its message. -/
def TxHolds (s : State) (c : TxChan) : Prop :=
  (c.state = .idle → c.msg = none) ∧ ∀ h d, c.msg = some h → c.cur = some d → d ∈ s.chain h

/-- A receive context whose partial `p` has the chain `l` (R111). -/
structure PartHolds (c : RxChan) (p : Assembly) (l : List DescId) : Prop where
  state : c.state = .assembling
  defn : c.defn.isSome = true
  count : p.count ≤ Config.partialLimit
  length : l.length = p.count
  tail : l.getLast? = some p.tail

/-- What a receive context says of chains. -/
def RxHolds (s : State) (c : RxChan) : Prop := ∀ p, c.part = some p → PartHolds c p (s.chain p.head)

/-- Ownership states agree with queues, messages and partials but for the descriptors `A` in hand. -/
structure Own (s : State) (A : List DescId) : Prop where
  holds : Holds s (heads s) A
  tx : ∀ n, TxHolds s (s.txc n)
  rx : ∀ n, RxHolds s (s.rxc n)

theorem mem_heads_queue {q : QueueId} {d : DescId} (h : d ∈ s.queue q) : (Owner.queued q, d) ∈ heads s :=
  List.mem_append_left _ (List.mem_append_left _ (List.mem_flatMap.mpr
    ⟨q, List.mem_finRange q, List.mem_map.mpr ⟨d, h, rfl⟩⟩))

theorem mem_heads_message {n : ChanId} {d : DescId} (h : (s.txc n).msg = some d) : (Owner.transit n, d) ∈ heads s :=
  List.mem_append_left _ (List.mem_append_right _ (List.mem_flatMap.mpr
    ⟨n, mem_allChans n, List.mem_map.mpr ⟨d, Option.mem_toList.mpr h, rfl⟩⟩))

theorem mem_heads_partial {n : ChanId} {p : Assembly} (h : (s.rxc n).part = some p) :
    (Owner.building n, p.head) ∈ heads s :=
  List.mem_append_right _ (List.mem_flatMap.mpr ⟨n, mem_allChans n, List.mem_map.mpr ⟨p, Option.mem_toList.mpr h, rfl⟩⟩)

/-- The heads are those of queues, messages and partials, so none is the host's. -/
theorem heads_not_host {x : Owner × DescId} (h : x ∈ heads s) : x.1 ≠ .host := by
  simp only [heads, queueHeads, messageHeads, partialHeads, List.mem_append, List.mem_flatMap, List.mem_map] at h
  obtain (⟨_, _, _, _, rfl⟩ | ⟨_, _, _, _, rfl⟩) | ⟨_, _, _, _, rfl⟩ := h
  · exact fun heq => by cases heq
  · exact fun heq => by cases heq
  · exact fun heq => by cases heq

/-! ## The invariant -/

theorem own_of_sound (ht : TransmitSound s) (hr : ReceiveSound s) (h : OwnershipSound s) : Own s [] := by
  obtain ⟨howned, hnodup, hcover, hcur, hpart⟩ := h
  rw [heldChains_eq, List.flatMap_map] at hnodup hcover
  refine ⟨⟨fun x hx => ?_, by simpa using hnodup, fun d hd => by simpa using hcover d hd⟩, fun n => ⟨fun hidle => ?_, hcur n⟩,
    fun n p hp => ?_⟩
  · obtain ⟨hchain, hhead, hmembers⟩ := howned _ (heldChains_eq s ▸ List.mem_map_of_mem hx)
    exact ⟨hchain, hhead, hmembers, heads_not_host hx⟩
  · have hmsg := txContextSound_msg (ht.1 n)
    rw [hidle] at hmsg
    simpa using hmsg
  · obtain ⟨hassembling, -, hsizes, hdefn, -, -⟩ := hr.1 n
    have hst : (s.rxc n).state = .assembling := hassembling.mpr (by rw [hp]; rfl)
    obtain ⟨hlength, htail⟩ := hpart n p hp
    exact ⟨hst, hdefn (by rw [hst]; exact fun heq => by cases heq), (hsizes p hp).2.1, hlength, htail⟩

theorem Own.sound (h : Own s []) : OwnershipSound s := by
  have hall := h.holds
  refine ⟨?_, ?_, ?_, fun n => (h.tx n).2, fun n p hp => ⟨(h.rx n p hp).length, (h.rx n p hp).tail⟩⟩
  · rw [heldChains_eq]
    intro x hx
    obtain ⟨y, hy, rfl⟩ := List.mem_map.mp hx
    have howned := hall.owned y hy
    exact ⟨howned.chain, howned.head, howned.members⟩
  · rw [heldChains_eq, List.flatMap_map]
    simpa using hall.nodup
  · rw [heldChains_eq, List.flatMap_map]
    simpa using hall.cover

namespace Own

theorem perm {B : List DescId} (hAB : A.Perm B) (h : Own s A) : Own s B :=
  ⟨h.holds.perm (List.Perm.refl _) hAB, h.tx, h.rx⟩

/-! ## Changes that hold and release nothing -/

theorem reframe (h : Own s A) (hq : t.queues = s.queues) (hmsg : ∀ n, (t.txc n).msg = (s.txc n).msg)
    (hpart : ∀ n, (t.rxc n).part = (s.rxc n).part)
    (hd : ∀ e, e ∉ A → (t.desc e).next = (s.desc e).next ∧ (t.desc e).owner = (s.desc e).owner)
    (htx : ∀ n, TxHolds s (t.txc n)) (hrx : ∀ n, RxHolds s (t.rxc n)) : Own t A := by
  have hchain : ∀ {x}, x ∈ heads s → t.chain x.2 = s.chain x.2 := fun hx => h.holds.chain_eq (fun e he => (hd e he).1) hx
  refine ⟨heads_congr hq hmsg hpart ▸ h.holds.redesc hd, fun n => ⟨(htx n).1, fun d e hm hc => ?_⟩, fun n p hp => ?_⟩
  · rw [hchain (mem_heads_message ((hmsg n).symm.trans hm))]
    exact (htx n).2 d e hm hc
  · have hkeep := hchain (mem_heads_partial ((hpart n).symm.trans hp))
    have hholds := hrx n p hp
    exact ⟨hholds.state, hholds.defn, hholds.count, hkeep ▸ hholds.length, hkeep ▸ hholds.tail⟩

/-- Changes of the descriptors in hand alone. -/
theorem redesc (h : Own s A) (hq : t.queues = s.queues) (htx : t.tx = s.tx) (hrx : t.rx = s.rx)
    (hd : ∀ e, e ∉ A → (t.desc e).next = (s.desc e).next ∧ (t.desc e).owner = (s.desc e).owner) : Own t A := by
  have htxc : ∀ n, t.txc n = s.txc n := fun n => congrArg (fun v => look v n) htx
  have hrxc : ∀ n, t.rxc n = s.rxc n := fun n => congrArg (fun v => look v n) hrx
  exact h.reframe hq (fun n => congrArg TxChan.msg (htxc n)) (fun n => congrArg RxChan.part (hrxc n)) hd
    (fun n => htxc n ▸ h.tx n) fun n => hrxc n ▸ h.rx n

/-- Changes of neither descriptors nor queues nor channels. -/
theorem same (h : Own s A) (hdescs : t.descs = s.descs) (hq : t.queues = s.queues) (htx : t.tx = s.tx) (hrx : t.rx = s.rx) :
    Own t A := by
  have hd : ∀ e, t.desc e = s.desc e := fun e => congrArg (fun v => look v e) hdescs
  exact h.redesc hq htx hrx fun e _ => ⟨by rw [hd], by rw [hd]⟩

/-- One loose descriptor rewritten. -/
theorem setDesc (h : Own s A) {d : DescId} (hd : d ∈ A) (x : Desc) : Own (s.setDesc d x) A := by
  refine h.redesc rfl rfl rfl fun e he => ?_
  have hne : d ≠ e := fun heq => he (heq ▸ hd)
  rw [State.desc_setDesc, if_neg hne]
  exact ⟨rfl, rfl⟩

theorem setTx (h : Own s A) {n : ChanId} {c : TxChan} (hmsg : c.msg = (s.txc n).msg) (hc : TxHolds s c) :
    Own (s.setTx n c) A := by
  refine h.reframe rfl (fun m => ?_) (fun _ => rfl) (fun _ _ => ⟨rfl, rfl⟩) (fun m => ?_) h.rx
  · rw [State.txc_setTx]
    split
    · next heq => exact heq ▸ hmsg
    · rfl
  · rw [State.txc_setTx]
    split
    · exact hc
    · exact h.tx m

theorem setRx (h : Own s A) {n : ChanId} {c : RxChan} (hpart : c.part = (s.rxc n).part) (hc : RxHolds s c) :
    Own (s.setRx n c) A := by
  refine h.reframe rfl (fun _ => rfl) (fun m => ?_) (fun _ _ => ⟨rfl, rfl⟩) h.tx fun m => ?_
  · rw [State.rxc_setRx]
    split
    · next heq => exact heq ▸ hpart
    · rfl
  · rw [State.rxc_setRx]
    split
    · exact hc
    · exact h.rx m

/-! ## Entries of queues (R8, R24) -/

theorem entry_owned (h : Own s A) {q : QueueId} {d : DescId} (hd : d ∈ s.queue q) : Owned s (.queued q) (s.chain d) :=
  h.holds.owned _ (mem_heads_queue hd)

theorem popQueue (h : Own s A) {q : QueueId} {d : DescId} {rest : List DescId} (hq : s.queue q = d :: rest) :
    Own (s.setQueue q rest) (s.chain d ++ A) := by
  obtain ⟨X, hX, hset⟩ := heads_setQueue s q
  rw [hq] at hX
  have hheld : Holds s (queueHeads q rest ++ X) (s.chain d ++ A) := (h.holds.perm hX (List.Perm.refl _)).release
  have hperm : Holds s (heads (s.setQueue q rest)) (s.chain d ++ A) := hheld.perm (hset rest).symm (List.Perm.refl _)
  exact ⟨hperm.redesc fun _ _ => ⟨rfl, rfl⟩, h.tx, h.rx⟩

theorem pushQueue {d : DescId} (h : Own s (s.chain d ++ A)) {q : QueueId} (hd : Owned s (.queued q) (s.chain d)) :
    Own (s.setQueue q (s.queue q ++ [d])) A := by
  obtain ⟨X, hX, hset⟩ := heads_setQueue s q
  have hheld : Holds s ((Owner.queued q, d) :: heads s) A := h.holds.hold hd
  have hentry : ((Owner.queued q, d) :: heads s).Perm (queueHeads q (s.queue q ++ [d]) ++ X) := by
    rw [queueHeads, List.map_append, List.append_assoc]
    exact (hX.cons _).trans List.perm_middle.symm
  have hperm : Holds s (heads (s.setQueue q (s.queue q ++ [d]))) A :=
    hheld.perm (hentry.trans (hset _).symm) (List.Perm.refl _)
  exact ⟨hperm.redesc fun _ _ => ⟨rfl, rfl⟩, h.tx, h.rx⟩

/-! ## Messages in hand (R9, R84) -/

theorem message_owned (h : Own s A) {n : ChanId} {d : DescId} (hd : (s.txc n).msg = some d) :
    Owned s (.transit n) (s.chain d) := h.holds.owned _ (mem_heads_message hd)

/-- Contexts of transmit channels with one of them replaced. -/
theorem txHolds_setTx (h : Own s A) {n : ChanId} {c : TxChan} (hc : TxHolds s c) (m : ChanId) :
    TxHolds s ((s.setTx n c).txc m) := by
  rw [State.txc_setTx]
  split
  · exact hc
  · exact h.tx m

theorem dropMessage (h : Own s A) {n : ChanId} {d : DescId} (hd : (s.txc n).msg = some d) {c : TxChan} (hc : c.msg = none) :
    Own (s.setTx n c) (s.chain d ++ A) := by
  obtain ⟨X, hX, hset⟩ := heads_setTx s n
  rw [hd] at hX
  have hheld : Holds s X (s.chain d ++ A) := (h.holds.perm hX (List.Perm.refl _)).release
  have hempty := hset c
  rw [hc] at hempty
  have hperm : Holds s (heads (s.setTx n c)) (s.chain d ++ A) := hheld.perm hempty.symm (List.Perm.refl _)
  exact ⟨hperm.redesc fun _ _ => ⟨rfl, rfl⟩,
    h.txHolds_setTx ⟨fun _ => hc, fun e _ he => by rw [hc] at he; cases he⟩, h.rx⟩

theorem holdMessage {n : ChanId} {d : DescId} (h : Own s (s.chain d ++ A)) (howned : Owned s (.transit n) (s.chain d))
    (hnone : (s.txc n).msg = none) {c : TxChan} (hmsg : c.msg = some d) (hc : TxHolds s c) : Own (s.setTx n c) A := by
  obtain ⟨X, hX, hset⟩ := heads_setTx s n
  rw [hnone] at hX
  have hheld : Holds s ((Owner.transit n, d) :: X) A := (h.holds.perm hX (List.Perm.refl _)).hold howned
  have hone := hset c
  rw [hmsg] at hone
  have hperm : Holds s (heads (s.setTx n c)) A := hheld.perm hone.symm (List.Perm.refl _)
  exact ⟨hperm.redesc fun _ _ => ⟨rfl, rfl⟩, h.txHolds_setTx hc, h.rx⟩

/-! ## Partials (R11, R111) -/

theorem partial_owned (h : Own s A) {n : ChanId} {p : Assembly} (hp : (s.rxc n).part = some p) :
    Owned s (.building n) (s.chain p.head) := h.holds.owned _ (mem_heads_partial hp)

/-- Contexts of receive channels with one of them replaced. -/
theorem rxHolds_setRx (h : Own s A) {n : ChanId} {c : RxChan} (hc : RxHolds s c) (m : ChanId) :
    RxHolds s ((s.setRx n c).rxc m) := by
  rw [State.rxc_setRx]
  split
  · exact hc
  · exact h.rx m

theorem dropPartial (h : Own s A) {n : ChanId} {p : Assembly} (hp : (s.rxc n).part = some p) {c : RxChan}
    (hc : c.part = none) : Own (s.setRx n c) (s.chain p.head ++ A) := by
  obtain ⟨X, hX, hset⟩ := heads_setRx s n
  rw [hp] at hX
  have hheld : Holds s X (s.chain p.head ++ A) := (h.holds.perm hX (List.Perm.refl _)).release
  have hempty := hset c
  rw [hc] at hempty
  have hperm : Holds s (heads (s.setRx n c)) (s.chain p.head ++ A) := hheld.perm hempty.symm (List.Perm.refl _)
  exact ⟨hperm.redesc fun _ _ => ⟨rfl, rfl⟩, h.tx,
    h.rxHolds_setRx fun p hp => by rw [hc] at hp; cases hp⟩

theorem holdPartial {n : ChanId} {p : Assembly} (h : Own s (s.chain p.head ++ A))
    (howned : Owned s (.building n) (s.chain p.head)) (hnone : (s.rxc n).part = none) {c : RxChan} (hpart : c.part = some p)
    (hc : RxHolds s c) : Own (s.setRx n c) A := by
  obtain ⟨X, hX, hset⟩ := heads_setRx s n
  rw [hnone] at hX
  have hheld : Holds s ((Owner.building n, p.head) :: X) A := (h.holds.perm hX (List.Perm.refl _)).hold howned
  have hone := hset c
  rw [hpart] at hone
  have hperm : Holds s (heads (s.setRx n c)) A := hheld.perm hone.symm (List.Perm.refl _)
  exact ⟨hperm.redesc fun _ _ => ⟨rfl, rfl⟩, h.tx, h.rxHolds_setRx hc⟩

/-! ## Descriptors of the host (R8, R29) -/

theorem claim (h : Own s []) {l : List DescId} (hl : l.Nodup) (hown : ∀ d ∈ l, (s.desc d).owner = .host) : Own s l :=
  ⟨h.holds.claim hl hown, h.tx, h.rx⟩

theorem letGo {l : List DescId} (h : Own s (l ++ A)) (hown : ∀ d ∈ l, (s.desc d).owner = .host) : Own s A :=
  ⟨h.holds.letGo hown, h.tx, h.rx⟩

end Own

end Sys2Proof.Machine
end

section
/-! PROOFS. The queue moves and the receive engine keep ownership in agreement with queues and chains (chapters 1, 2, 6). -/

namespace Sys2Proof.Machine

open Sys2Proof.Safety

variable {s t : State} {A : List DescId}

/-! ## Queue moves (R8, R10, R11, R13) -/

theorem chain_of_next_none {d : DescId} (h : (s.desc d).next = none) : s.chain d = [d] := by
  change d :: (match (s.desc d).next with | none => [] | some e => chainFrom s.descs 15 e) = [d]
  rw [h]

/-- A whole chain is one descriptor, or a head that names the rest, which is a whole chain. -/
theorem isChain_chain_cases {d : DescId} (h : isChain s (s.chain d) = true) :
    ((s.desc d).next = none ∧ s.chain d = [d])
    ∨ ∃ e l, (s.desc d).next = some e ∧ s.chain d = d :: e :: l ∧ isChain s (e :: l) = true ∧ d ∉ e :: l := by
  obtain ⟨l, hl⟩ := chain_eq_cons s d
  rw [hl] at h ⊢
  obtain ⟨hlinked, hnodup, hlength⟩ := isChain_iff.mp h
  cases l with
  | nil => exact .inl ⟨by simpa [linked] using hlinked, rfl⟩
  | cons e l =>
    obtain ⟨hnext, hrest⟩ := linked_tail hlinked
    obtain ⟨hnew, hnodup⟩ := List.nodup_cons.mp hnodup
    exact .inr ⟨e, l, hnext, rfl, isChain_iff.mpr ⟨hrest, hnodup, (Nat.le_succ _).trans hlength⟩, hnew⟩

theorem setQueue_setQueue (s : State) (q : QueueId) (l l' : List DescId) : (s.setQueue q l).setQueue q l' = s.setQueue q l' := by
  have hput : put (put s.queues q l) q l' = put s.queues q l' := table_ext fun i => by
    simp only [look_put]
    split
    · rfl
    · rfl
  simp only [State.setQueue, hput]

namespace Own

/-- The rest of `pushQueue` for a chain whose head and members have just been given to the queue. -/
theorem pushOwned {d : DescId} {q : QueueId} (h : Own s (s.chain d ++ A)) (hchain : isChain s (s.chain d) = true)
    (hhead : (s.desc d).owner = .queued q) (hmembers : ∀ e ∈ (s.chain d).tail, (s.desc e).owner = .linked) :
    Own (s.setQueue q (s.queue q ++ [d])) A := by
  refine h.pushQueue ⟨hchain, fun e he => ?_, hmembers, fun heq => by cases heq⟩
  obtain rfl : d = e := Option.some.inj he
  exact hhead

theorem pushChain {d : DescId} (h : Own s (s.chain d ++ A)) (hchain : isChain s (s.chain d) = true) (q : QueueId) :
    Own (s.pushChain q d) A := by
  obtain ⟨l, hl⟩ := chain_eq_cons s d
  have hdesc := pushChain_desc s q d
  have hqueues : ((s.setOwners (s.chain d).tail .linked).setOwner d (.queued q)).queues = s.queues := by
    rw [setOwners_frame]
    rfl
  have htx : ((s.setOwners (s.chain d).tail .linked).setOwner d (.queued q)).tx = s.tx := by
    rw [setOwners_frame]
    rfl
  have hrx : ((s.setOwners (s.chain d).tail .linked).setOwner d (.queued q)).rx = s.rx := by
    rw [setOwners_frame]
    rfl
  change ∀ e, ((s.setOwners (s.chain d).tail .linked).setOwner d (.queued q)).desc e = _ at hdesc
  change Own (((s.setOwners (s.chain d).tail .linked).setOwner d (.queued q)).setQueue q
    (((s.setOwners (s.chain d).tail .linked).setOwner d (.queued q)).queue q ++ [d])) A
  generalize (s.setOwners (s.chain d).tail .linked).setOwner d (.queued q) = u at *
  have hnext : ∀ e, (u.desc e).next = (s.desc e).next := fun e => by rw [hdesc]
  have hsame : u.chain d = s.chain d := chain_congr _ hnext d
  have hu : Own u (u.chain d ++ A) := by
    rw [hsame]
    refine h.redesc hqueues htx hrx fun e he => ⟨hnext e, ?_⟩
    have he' : e ∉ s.chain d := fun hmem => he (List.mem_append_left _ hmem)
    rw [hl] at he'
    obtain ⟨hne, hrest⟩ := not_or.mp (List.mem_cons.not.mp he')
    rw [hdesc, hl, List.tail_cons, if_neg hne, if_neg hrest]
  refine hu.pushOwned ?_ (by rw [hdesc, if_pos rfl]) fun e he => ?_
  · rw [hsame, isChain_congr_next fun e _ => hnext e]
    exact hchain
  · rw [hsame] at he
    have hnodup := (isChain_iff.mp hchain).2.1
    have hne : e ≠ d := by
      rintro rfl
      rw [hl] at hnodup he
      exact (List.nodup_cons.mp hnodup).1 he
    rw [hdesc, if_neg hne, if_pos he]

theorem handBack {d : DescId} (h : Own s (s.chain d ++ A)) (hchain : isChain s (s.chain d) = true) (st : DescStatus)
    (peer : Station) (n : ChanId) : Own (s.handBack d st peer n) A := by
  unfold State.handBack
  have hu := h.setDesc (List.mem_append_left _ (mem_chain_self s d))
    { s.desc d with status := st, peer := peer, channel := n }
  have hnext : ∀ e, ((s.setDesc d { s.desc d with status := st, peer := peer, channel := n }).desc e).next
      = (s.desc e).next := fun e => by
    rw [State.desc_setDesc]
    split
    · next heq => rw [heq]
    · rfl
  have hsame : (s.setDesc d { s.desc d with status := st, peer := peer, channel := n }).chain d = s.chain d :=
    chain_congr _ hnext d
  generalize s.setDesc d { s.desc d with status := st, peer := peer, channel := n } = u at *
  rw [← hsame] at hu hchain
  exact hu.pushChain ((isChain_congr_next fun e _ => hnext e).trans hchain) _

theorem handBackOldest (h : Own s A) (q : QueueId) (st : DescStatus) (peer : Station) (n : ChanId) :
    Own (s.handBackOldest q st peer n) A := by
  unfold State.handBackOldest
  split
  · exact h
  · next d rest hq =>
    have hd : d ∈ s.queue q := hq ▸ List.mem_cons_self
    have hchain : isChain s (s.chain d) = true := (h.entry_owned hd).chain
    have hpopped : Own (s.setQueue q rest) ((s.setQueue q rest).chain d ++ A) := h.popQueue hq
    have hsame : isChain (s.setQueue q rest) (s.chain d) = isChain s (s.chain d) := isChain_congr_next fun _ _ => rfl
    exact hpopped.handBack (hsame.trans hchain) st peer n

theorem flush (h : Own s A) (q : QueueId) (st : DescStatus) (peer : Station) (n : ChanId) (k : Nat) :
    Own (s.flush q st peer n k) A := by
  induction k generalizing s with
  | zero => exact h
  | succ k ih => exact ih (h.handBackOldest q st peer n)

/-- A pool pop takes one descriptor in hand; the rest of its chain stays an entry (R11, R33). -/
theorem poolPop {q : QueueId} {d : DescId} (h : Own s A) (hpop : s.poolPop q = some (d, t)) :
    Own t (d :: A) ∧ (t.desc d).next = none := by
  unfold State.poolPop at hpop
  split at hpop
  · cases hpop
  next d' rest hq =>
    dsimp only at hpop
    have hchain := (h.entry_owned (hq ▸ List.mem_cons_self)).chain
    have hpopped := h.popQueue hq
    obtain ⟨hnone, hone⟩ | ⟨e, l, hnext, hmany, hrest, hnew⟩ := isChain_chain_cases hchain
    · rw [hnone] at hpop
      obtain ⟨rfl, rfl⟩ := Prod.mk.inj (Option.some.inj hpop)
      rw [hone] at hpopped
      refine ⟨hpopped.setDesc List.mem_cons_self _, ?_⟩
      rw [State.desc_setQueue_other, State.desc_setDesc, if_pos rfl]
    · rw [hnext] at hpop
      obtain ⟨rfl, rfl⟩ := Prod.mk.inj (Option.some.inj hpop)
      have hne : e ≠ d' := fun heq => hnew (heq ▸ List.mem_cons_self)
      rw [hmany] at hpopped
      have hu := (hpopped.setDesc List.mem_cons_self { s.desc d' with next := none }).setDesc (d := e)
        (List.mem_cons_of_mem _ List.mem_cons_self)
        { ((s.setQueue q rest).setDesc d' { s.desc d' with next := none }).desc e with owner := .queued q }
      have hdesc : ∀ a, ((((s.setQueue q rest).setDesc d' { s.desc d' with next := none }).setOwner e (.queued q)).desc a)
          = if e = a then { s.desc e with owner := .queued q }
            else if d' = a then { s.desc d' with next := none } else s.desc a := fun a => by
        rw [State.desc_setOwner, State.desc_setDesc, State.desc_setDesc, if_neg (Ne.symm hne)]
        rfl
      have hqueue : (((s.setQueue q rest).setDesc d' { s.desc d' with next := none }).setOwner e (.queued q)).queue q = rest := by
        simp [State.queue_setQueue]
      have hfinal : ((s.setDesc d' { s.desc d' with next := none }).setOwner e (.queued q)).setQueue q (rest ++ [e])
          = (((s.setQueue q rest).setDesc d' { s.desc d' with next := none }).setOwner e (.queued q)).setQueue q (rest ++ [e]) :=
        (setQueue_setQueue ((s.setDesc d' { s.desc d' with next := none }).setOwner e (.queued q)) q rest (rest ++ [e])).symm
      rw [hfinal]
      change Own (((s.setQueue q rest).setDesc d' { s.desc d' with next := none }).setOwner e (.queued q)) _ at hu
      generalize ((s.setQueue q rest).setDesc d' { s.desc d' with next := none }).setOwner e (.queued q) = u at *
      have hsame : isChain u (e :: l) = true := by
        rw [isChain_congr_next (s := s) fun a ha => ?_]
        · exact hrest
        · have had : d' ≠ a := fun heq => hnew (heq ▸ ha)
          rw [hdesc, if_neg had]
          split
          · next heq => rw [heq]
          · rfl
      have hmembers : ∀ a ∈ l, (u.desc a).owner = .linked := fun a ha => by
        have hea : e ≠ a := fun heq => (List.nodup_cons.mp (isChain_iff.mp hrest).2.1).1 (heq ▸ ha)
        have had : d' ≠ a := fun heq => hnew (heq ▸ List.mem_cons_of_mem _ ha)
        rw [hdesc, if_neg hea, if_neg had]
        refine (h.entry_owned (hq ▸ List.mem_cons_self)).members a ?_
        rw [hmany]
        exact List.mem_cons_of_mem _ ha
      have hchainE : u.chain e = e :: l := chain_of_isChain u hsame
      have hout : Own u (u.chain e ++ d' :: A) := by
        rw [hchainE]
        exact hu.perm List.perm_middle.symm
      refine ⟨?_, ?_⟩
      · rw [← hqueue]
        refine hout.pushOwned (by rw [hchainE]; exact hsame) (by rw [hdesc, if_pos rfl]) ?_
        rw [hchainE]
        exact hmembers
      · rw [State.desc_setQueue_other, hdesc, if_neg hne, if_pos rfl]

/-- A descriptor in hand with next NONE becomes an entry of its own. -/
theorem pushSingle {d : DescId} {q : QueueId} (h : Own s (d :: A)) (hnext : (s.desc d).next = none)
    (howner : (s.desc d).owner = .queued q) : Own (s.setQueue q (s.queue q ++ [d])) A := by
  have hone : s.chain d = [d] := chain_of_next_none hnext
  have hout : Own s (s.chain d ++ A) := by
    rw [hone]
    exact h
  refine hout.pushOwned ?_ howner ?_
  · rw [hone]
    exact isChain_iff.mpr ⟨by simpa [linked] using hnext, List.nodup_singleton d, by simp [Config.chainLimit]⟩
  · rw [hone]
    exact fun e he => by cases he

theorem pushMarker (h : Own s A) (target : QueueId) (peer : Station) (n : ChanId) (total : Nat) :
    Own (s.pushMarker target peer n total) A := by
  unfold State.pushMarker
  split
  · exact h.same rfl rfl rfl rfl
  · next d u hpop =>
    have hu := ((h.poolPop hpop).1.setDesc List.mem_cons_self (markerRecord (u.desc d) peer n total target))
    refine hu.pushSingle ?_ ?_
    · rw [State.desc_setDesc, if_pos rfl]
      rfl
    · rw [State.desc_setDesc, if_pos rfl]
      rfl

theorem returnToPool {d : DescId} (h : Own s (d :: A)) (q : QueueId) : Own (s.returnToPool q d) A := by
  have hu := h.setDesc List.mem_cons_self { s.desc d with fill := 0, next := none, owner := .queued q }
  refine hu.pushSingle ?_ ?_
  · rw [State.desc_setDesc, if_pos rfl]
  · rw [State.desc_setDesc, if_pos rfl]

theorem returnAll {l : List DescId} (h : Own s (l ++ A)) (q : QueueId) : Own (s.returnAll q l) A := by
  induction l generalizing s with
  | nil => exact h
  | cons d l ih => exact ih (h.returnToPool q)

/-! ## The end of an assembly (R13, R128) -/

theorem returnAll_setRx (s : State) (n : ChanId) (c : RxChan) (q : QueueId) (l : List DescId) :
    (s.setRx n c).returnAll q l = (s.returnAll q l).setRx n c := by
  induction l generalizing s with
  | nil => rfl
  | cons d l ih => exact ih (s.returnToPool q d)

theorem rxHolds_none {c : RxChan} (h : c.part = none) : RxHolds s c := fun p hp => by rw [h] at hp; cases hp

theorem rxHolds_congr {c c' : RxChan} (h : RxHolds s c) (hpart : c'.part = c.part) (hstate : c'.state = c.state)
    (hdefn : c'.defn = c.defn) : RxHolds s c' := fun p hp => by
  have hholds := h p (hpart.symm.trans hp)
  exact ⟨hstate.trans hholds.state, hdefn ▸ hholds.defn, hholds.count, hholds.length, hholds.tail⟩

/-- The partial of a channel goes back to its pools and the channel has none. -/
theorem returnPartial (h : Own s A) (n : ChanId) {c : RxChan} (hc : c.part = none) :
    Own ((s.returnPartial n).setRx n c) A := by
  cases hpart : (s.rxc n).part with
  | none =>
    rw [returnPartial_none s n (.inr hpart)]
    exact h.setRx (hc.trans hpart.symm) (rxHolds_none hc)
  | some p =>
    obtain ⟨df, hdf⟩ := Option.isSome_iff_exists.mp (h.rx n p hpart).defn
    have hback : (s.returnPartial n).setRx n c
        = ((s.setRx n c).returnToPool df.headPool p.head).returnAll df.bodyPool (s.chain p.head).tail := by
      unfold State.returnPartial
      rw [hdf, hpart]
      exact (returnAll_setRx (s.returnToPool df.headPool p.head) n c df.bodyPool (s.chain p.head).tail).symm
    rw [hback]
    exact ((h.dropPartial hpart hc).returnToPool df.headPool).returnAll df.bodyPool

theorem abandonTo (h : Own s A) (n : ChanId) (st : RxState) : Own (s.abandonTo n st) A :=
  (h.returnPartial n rfl).same rfl rfl rfl rfl

theorem patienceOf (h : Own s A) (a : Station) (n : ChanId) : Own (s.patienceOf a n) A := by
  unfold State.patienceOf
  split
  · exact h
  · refine ite_keeps (Q := (Own · A)) (fun _ => ite_keeps (Q := (Own · A)) (fun _ => ?_) fun _ => ?_) fun _ => h
    · exact h.setRx rfl (rxHolds_congr (h.rx n) rfl rfl rfl)
    · have hidle : Own (s.setRx n { s.rxc n with idle := (s.rxc n).idle + 1 }) A :=
        h.setRx rfl (rxHolds_congr (h.rx n) rfl rfl rfl)
      exact ite_keeps (Q := (Own · A)) (fun _ => hidle.abandonTo n .idle) fun _ => hidle

theorem sourceAbsent (h : Own s A) (a : Station) (n : ChanId) : Own (s.sourceAbsent a n) A := by
  have hforgot : Own (s.setTally n a none) A := h.same rfl rfl rfl rfl
  exact ite_keeps (Q := (Own · A)) (fun _ => hforgot.abandonTo n .idle) fun _ => hforgot

theorem chanOffline (h : Own s A) (n : ChanId) : Own (s.chanOffline n) A := by
  have hended : Own (s.abandonIfBusy n) A := ite_keeps (Q := (Own · A)) (fun _ => h.abandonTo n .idle) fun _ => h
  exact hended.setRx rfl (rxHolds_congr (hended.rx n) rfl rfl rfl)

theorem poolPop_setRx (s : State) (n : ChanId) (c : RxChan) (q : QueueId) :
    (s.setRx n c).poolPop q = (s.poolPop q).map fun x => (x.1, x.2.setRx n c) := by
  have hqueue : (s.setRx n c).queue q = s.queue q := rfl
  unfold State.poolPop
  rw [hqueue]
  cases s.queue q with
  | nil => rfl
  | cons h rest =>
    have hdesc : (s.setRx n c).desc h = s.desc h := rfl
    dsimp only
    rw [hdesc]
    cases (s.desc h).next with
    | none => rfl
    | some e => rfl

theorem pushMarker_setRx (s : State) (n : ChanId) (c : RxChan) (target : QueueId) (peer : Station) (k : ChanId)
    (total : Nat) : (s.setRx n c).pushMarker target peer k total = (s.pushMarker target peer k total).setRx n c := by
  unfold State.pushMarker
  rw [poolPop_setRx, State.setRx_cfg]
  cases s.poolPop s.cfg.markerPool with
  | none => rfl
  | some x => rfl

theorem completeRxTeardown (h : Own s A) (n : ChanId) : Own (s.completeRxTeardown n) A := by
  unfold State.completeRxTeardown
  split
  · exact h
  · next df _ =>
    dsimp only
    generalize (if (s.rxc n).part.isSome then 1 else 0) = total
    have hc : ((((s.returnPartial n).pushMarker df.delivery (s.returnPartial n).ownAddr n total).clearTallyRow n).rxc n
      |>.atRest .disabled).part = none := rfl
    generalize ((((s.returnPartial n).pushMarker df.delivery (s.returnPartial n).ownAddr n total).clearTallyRow n).rxc n).atRest
      .disabled = c at hc
    have hpushed := (h.returnPartial n hc).pushMarker df.delivery (s.returnPartial n).ownAddr n total
    rw [pushMarker_setRx] at hpushed
    exact hpushed.same rfl rfl rfl rfl

end Own

end Sys2Proof.Machine
end

section
/-! PROOFS. The reply decision and the transmit engine keep ownership in agreement with queues and chains (chapters 5, 6). -/

namespace Sys2Proof.Machine

open Sys2Proof.Safety

variable {s t : State} {A : List DescId}

/-! ## Segments stored (R121, R122, R127) -/

theorem setOwners_setRx (s : State) (n : ChanId) (c : RxChan) (ds : List DescId) (o : Owner) :
    (s.setRx n c).setOwners ds o = (s.setOwners ds o).setRx n c := by
  induction ds generalizing s with
  | nil => rfl
  | cons d ds ih => exact ih (s.setOwner d o)

theorem pushChain_setRx (s : State) (n : ChanId) (c : RxChan) (q : QueueId) (d : DescId) :
    (s.setRx n c).pushChain q d = (s.pushChain q d).setRx n c := by
  have hchain : (s.setRx n c).chain d = s.chain d := rfl
  unfold State.pushChain
  dsimp only
  rw [hchain, setOwners_setRx]
  rfl

theorem setRx_setRx (s : State) (n : ChanId) (c d : RxChan) : (s.setRx n c).setRx n d = s.setRx n d := by
  have hput : put (put s.rx n c) n d = put s.rx n d := table_ext fun i => by
    simp only [look_put]
    split
    · rfl
    · rfl
  simp only [State.setRx, hput]

theorem setRx_rxc_self (s : State) (n : ChanId) (c : RxChan) : (s.setRx n c).rxc n = c := by
  rw [State.rxc_setRx, if_pos rfl]

/-- A chain with one more descriptor after its tail leads there. -/
theorem leadsTo_of_linked {l : List DescId} {x d : DescId} (hlinked : linked s l = true) (hnodup : l.Nodup)
    (hlast : l.getLast? = some x) (hnext : ∀ e ∈ l, e ≠ x → (t.desc e).next = (s.desc e).next)
    (htail : (t.desc x).next = some d) : leadsTo t l d = true := by
  induction l with
  | nil => cases hlast
  | cons a l ih =>
    cases l with
    | nil =>
      obtain rfl : a = x := Option.some.inj hlast
      simpa [leadsTo] using htail
    | cons b l =>
      obtain ⟨hab, hrest⟩ := linked_tail hlinked
      obtain ⟨hnew, hnodup⟩ := List.nodup_cons.mp hnodup
      rw [List.getLast?_cons_cons] at hlast
      have hax : a ≠ x := fun heq => hnew (heq ▸ List.mem_of_getLast? hlast)
      rw [leadsTo, hnext a List.mem_cons_self hax, hab, ih hrest hnodup hlast fun e he => hnext e (List.mem_cons_of_mem a he)]
      simp

/-- A partial's chain with one more descriptor linked after its tail. -/
theorem Owned.grow {n : ChanId} {l : List DescId} {x d : DescId} (h : Owned s (.building n) l) (hlast : l.getLast? = some x)
    (hfresh : d ∉ l) (hroom : l.length < Config.chainLimit) (hkeep : ∀ e ∈ l, e ≠ x → (t.desc e).next = (s.desc e).next)
    (howner : ∀ e ∈ l, (t.desc e).owner = (s.desc e).owner) (htail : (t.desc x).next = some d)
    (hend : (t.desc d).next = none) (hnew : (t.desc d).owner = .building n) : Owned t (.building n) (l ++ [d]) := by
  obtain ⟨hlinked, hnodup, -⟩ := isChain_iff.mp h.chain
  have hleads := leadsTo_of_linked hlinked hnodup hlast hkeep htail
  cases l with
  | nil => cases hlast
  | cons a l =>
    refine ⟨isChain_iff.mpr ⟨linked_concat.mpr ⟨hleads, hend⟩, ?_, ?_⟩, fun e he => ?_, fun e he => ?_, h.held⟩
    · exact hnodup.append (List.nodup_singleton d) (List.disjoint_singleton.mpr hfresh)
    · rw [List.length_append]
      exact hroom
    · obtain rfl : a = e := Option.some.inj he
      rw [howner a List.mem_cons_self]
      exact h.head a rfl
    · rw [List.cons_append, List.tail_cons, List.mem_append, List.mem_singleton] at he
      obtain he | rfl := he
      · rw [howner e (List.mem_cons_of_mem a he)]
        exact h.members e he
      · exact hnew

/-- A later segment stored, its tally recorded and its descriptor linked after the partial's tail: the state in which the
partial has grown (R122). -/
def State.joined (s : State) (n : ChanId) (p : Assembly) (d : DescId) (f : DataFrame) : State :=
  let u := (s.storeSegment n d f).recordTally n f
  u.setDesc p.tail { u.desc p.tail with next := some d }

/-- The partial with one more segment (R122). -/
def Assembly.grown (p : Assembly) (d : DescId) (f : DataFrame) : Assembly :=
  { head := p.head, tail := d, count := p.count + 1, length := p.length + f.payload.length }

/-- A channel whose partial has just grown (R122). -/
def RxChan.joined (c : RxChan) (p : Assembly) : RxChan := { c with idle := 0, progress := true, part := some p }

theorem acceptNext_eq (s : State) (n : ChanId) (p : Assembly) (d : DescId) (f : DataFrame) :
    s.acceptNext n p d f =
      (let u := (s.joined n p d f).setRx n ((s.rxc n).joined (p.grown d f))
      if f.last then u.deliver n f.source else u) := rfl

theorem joined_desc {n : ChanId} {p : Assembly} {d : DescId} (f : DataFrame) (hd : d ≠ p.tail) (e : DescId) :
    (s.joined n p d f).desc e =
      if p.tail = e then { s.desc p.tail with next := some d }
      else if d = e then { s.desc d with fill := f.payload.length, owner := .building n } else s.desc e := by
  have hstore : ∀ a, ((s.storeSegment n d f).recordTally n f).desc a
      = if d = a then { s.desc d with fill := f.payload.length, owner := .building n } else s.desc a := fun a => by
    change (State.setDesc _ d _).desc a = _
    rw [State.desc_setDesc]
    rfl
  unfold State.joined
  rw [State.desc_setDesc, hstore p.tail, if_neg hd, hstore e]

namespace Own

theorem storeSegment (h : Own s A) (n : ChanId) {d : DescId} (hd : d ∈ A) (f : DataFrame) : Own (s.storeSegment n d f) A :=
  (h.same (t := s.writeBuffer d 0 f.payload) rfl rfl rfl rfl).setDesc hd _

theorem recordTally (h : Own s A) (n : ChanId) (f : DataFrame) : Own (s.recordTally n f) A := h.same rfl rfl rfl rfl

/-- A whole chain in hand is delivered as the partial of its channel. -/
theorem deliverLoose {n : ChanId} {df : RxDef} {p : Assembly} (hdf : (s.rxc n).defn = some df)
    (hp : (s.rxc n).part = some p) (h : Own (s.setRx n ((s.rxc n).atRest .idle)) (s.chain p.head ++ A))
    (hchain : isChain s (s.chain p.head) = true) (src : Station) : Own (s.deliver n src) A := by
  unfold State.deliver
  rw [hdf, hp]
  dsimp only
  rw [← pushChain_setRx]
  have hu := h.setDesc (List.mem_append_left _ (mem_chain_self s p.head))
    (deliveredRecord (s.desc p.head) src n (s.rxc n).label p)
  have hnext : ∀ e, (((s.setRx n ((s.rxc n).atRest .idle)).setDesc p.head
      (deliveredRecord (s.desc p.head) src n (s.rxc n).label p)).desc e).next = (s.desc e).next := fun e => by
    rw [State.desc_setDesc]
    split
    · next heq => rw [← heq]; rfl
    · rfl
  change Own (((s.setRx n ((s.rxc n).atRest .idle)).setDesc p.head
      (deliveredRecord (s.desc p.head) src n (s.rxc n).label p)).pushChain df.delivery p.head) A
  generalize (s.setRx n ((s.rxc n).atRest .idle)).setDesc p.head
      (deliveredRecord (s.desc p.head) src n (s.rxc n).label p) = u at *
  have hsame : u.chain p.head = s.chain p.head := chain_congr _ hnext p.head
  rw [← hsame] at hu hchain
  exact hu.pushChain ((isChain_congr_next fun e _ => hnext e).trans hchain) df.delivery

theorem deliver (h : Own s A) (n : ChanId) (src : Station) : Own (s.deliver n src) A := by
  cases hp : (s.rxc n).part with
  | none =>
    have hnothing : s.deliver n src = s := by
      unfold State.deliver
      rw [hp]
      cases (s.rxc n).defn with
      | none => rfl
      | some _ => rfl
    rw [hnothing]
    exact h
  | some p =>
    obtain ⟨df, hdf⟩ := Option.isSome_iff_exists.mp (h.rx n p hp).defn
    exact deliverLoose hdf hp (h.dropPartial hp rfl) (h.partial_owned hp).chain src

/-- A FIRST segment in a descriptor in hand begins a partial (R121). -/
theorem acceptFirst {d : DescId} (h : Own s (d :: A)) (hnext : (s.desc d).next = none) {n : ChanId}
    (hnone : (s.rxc n).part = none) (hdefn : (s.rxc n).defn.isSome = true) (f : DataFrame) :
    Own (s.acceptFirst n d f) A := by
  have hstored : Own ((s.storeSegment n d f).recordTally n f) (d :: A) :=
    (h.storeSegment n List.mem_cons_self f).recordTally n f
  have hdesc : ((s.storeSegment n d f).recordTally n f).desc d
      = { s.desc d with fill := f.payload.length, owner := .building n } := by
    change (State.setDesc _ d _).desc d = _
    rw [State.desc_setDesc, if_pos rfl]
    rfl
  have hrxc : ((s.storeSegment n d f).recordTally n f).rxc n = s.rxc n := rfl
  unfold State.acceptFirst
  dsimp only
  generalize (s.storeSegment n d f).recordTally n f = u at *
  have hsingle : (u.desc d).next = none := by rw [hdesc]; exact hnext
  have hone : u.chain d = [d] := chain_of_next_none hsingle
  have howned : Owned u (.building n) (u.chain d) := by
    rw [hone]
    refine ⟨isChain_iff.mpr ⟨by simp [linked, hsingle], List.nodup_singleton d, by simp [Config.chainLimit]⟩,
      fun e he => ?_, (fun e he => by cases he), (fun heq => by cases heq)⟩
    obtain rfl : d = e := Option.some.inj he
    rw [hdesc]
  have hbegun := holdPartial (A := A) (p := { head := d, tail := d, count := 1, length := f.payload.length })
    (by rw [hone]; exact hstored) howned (hrxc ▸ hnone)
    (c := { u.rxc n with
      state := .assembling, source := some f.source, label := f.label.getD 0, idle := 0, progress := true,
      part := some { head := d, tail := d, count := 1, length := f.payload.length } }) rfl fun p hp => by
        obtain rfl := Option.some.inj hp
        exact ⟨rfl, by rw [hrxc]; exact hdefn, by simp [Config.partialLimit], by rw [hone]; rfl, by rw [hone]; rfl⟩
  exact ite_keeps (Q := (Own · A)) (fun _ => hbegun.deliver n f.source) fun _ => hbegun

/-- The partial has grown by a descriptor in hand, and its channel's context is still to be written. -/
theorem joined {d : DescId} (h : Own s (d :: A)) (hnext : (s.desc d).next = none) {n : ChanId} {p : Assembly}
    (hp : (s.rxc n).part = some p) (f : DataFrame) :
    Own ((s.joined n p d f).setRx n { s.rxc n with part := none }) (s.chain p.head ++ d :: A)
    ∧ (s.joined n p d f).chain p.head = s.chain p.head ++ [d] ∧ Owned (s.joined n p d f) (.building n) (s.chain p.head ++ [d]) := by
  have hpart := h.rx n p hp
  have howned := h.partial_owned hp
  have hfresh : d ∉ s.chain p.head := fun hmem => h.holds.not_mem_loose (mem_heads_partial hp) hmem List.mem_cons_self
  have htailmem : p.tail ∈ s.chain p.head := List.mem_of_getLast? hpart.tail
  have htail : d ≠ p.tail := fun heq => hfresh (heq ▸ htailmem)
  have hdesc := joined_desc (s := s) (n := n) f htail
  have hdropped : Own (s.setRx n { s.rxc n with part := none }) (s.chain p.head ++ d :: A) := h.dropPartial hp rfl
  have hlinked : Own ((s.joined n p d f).setRx n { s.rxc n with part := none }) (s.chain p.head ++ d :: A) :=
    ((hdropped.storeSegment n (List.mem_append_right _ List.mem_cons_self) f).recordTally n f).setDesc
      (List.mem_append_left _ htailmem) _
  generalize s.joined n p d f = w at *
  have hold : ∀ e ∈ s.chain p.head, e ≠ p.tail → w.desc e = s.desc e := fun e he hne => by
    have hde : d ≠ e := fun heq => hfresh (heq ▸ he)
    rw [hdesc, if_neg (Ne.symm hne), if_neg hde]
  have hlast : w.desc p.tail = { s.desc p.tail with next := some d } := by rw [hdesc, if_pos rfl]
  have hnew : w.desc d = { s.desc d with fill := f.payload.length, owner := .building n } := by
    rw [hdesc, if_neg (Ne.symm htail), if_pos rfl]
  have hgrown : Owned w (.building n) (s.chain p.head ++ [d]) := by
    refine howned.grow hpart.tail hfresh ?_ (fun e he hne => by rw [hold e he hne]) (fun e he => ?_) (by rw [hlast])
      (by rw [hnew]; exact hnext) (by rw [hnew])
    · rw [hpart.length]
      exact Nat.lt_succ_of_le hpart.count
    · by_cases heq : e = p.tail
      · rw [heq, hlast]
      · rw [hold e he heq]
  refine ⟨hlinked, ?_, hgrown⟩
  obtain ⟨l, hl⟩ := chain_eq_cons s p.head
  have hchain := hgrown.chain
  rw [hl, List.cons_append] at hchain ⊢
  exact chain_of_isChain w hchain

/-- A later segment in a descriptor in hand extends the partial (R122). -/
theorem acceptNext {d : DescId} (h : Own s (d :: A)) (hnext : (s.desc d).next = none) {n : ChanId} {p : Assembly}
    (hp : (s.rxc n).part = some p) {f : DataFrame} (hcount : f.last = false → p.count < Config.partialLimit) :
    Own (s.acceptNext n p d f) A := by
  have hpart := h.rx n p hp
  obtain ⟨hlinked, hchain, howned⟩ := h.joined hnext hp f
  rw [acceptNext_eq]
  generalize s.joined n p d f = w at *
  have hloose : Own (w.setRx n { s.rxc n with part := none }) (w.chain p.head ++ A) := by
    rw [hchain, List.append_assoc]
    exact hlinked
  rw [← hchain] at howned
  have hsame : isChain (w.setRx n ((s.rxc n).joined (p.grown d f))) (w.chain p.head) = isChain w (w.chain p.head) :=
    isChain_congr_next fun _ _ => rfl
  dsimp only
  split
  · obtain ⟨df, hdf⟩ := Option.isSome_iff_exists.mp hpart.defn
    refine deliverLoose (s := w.setRx n ((s.rxc n).joined (p.grown d f))) (df := df) (p := p.grown d f)
      (by rw [setRx_rxc_self]; exact hdf) (by rw [setRx_rxc_self]; rfl) ?_
      (hsame.trans howned.chain) f.source
    rw [setRx_setRx, ← setRx_setRx w n { s.rxc n with part := none }, setRx_rxc_self]
    exact Own.setRx hloose (by rw [setRx_rxc_self]; rfl) (rxHolds_none rfl)
  · next hend =>
    rw [← setRx_setRx w n { s.rxc n with part := none }]
    refine holdPartial (p := p.grown d f) hloose (howned.congr fun _ _ => ⟨rfl, rfl⟩) (by rw [setRx_rxc_self]) rfl
      fun p' hp' => ?_
    obtain rfl := Option.some.inj hp'
    refine ⟨hpart.state, hpart.defn, hcount (Bool.not_eq_true _ ▸ hend), ?_, ?_⟩
    · change (w.chain p.head).length = p.count + 1
      rw [hchain, List.length_append, hpart.length, List.length_singleton]
    · change (w.chain p.head).getLast? = some d
      rw [hchain, List.getLast?_append]
      rfl

theorem dropSegment (h : Own s A) (n : ChanId) (f : DataFrame) : Own (s.dropSegment n f) A :=
  (h.returnPartial n rfl).same rfl rfl rfl rfl

theorem starve (h : Own s A) (n : ChanId) (policy : Policy) (f : DataFrame) : Own (s.starve n policy f).2 A := by
  cases policy with
  | refuse => exact h
  | drop => exact h.dropSegment n f

theorem decideFirst (h : Own s A) {n : ChanId} (hnone : (s.rxc n).part = none) (hdefn : (s.rxc n).defn.isSome = true)
    (df : RxDef) (f : DataFrame) : Own (s.decideFirst n df f).2 A := by
  unfold State.decideFirst
  split
  · exact h.starve n _ f
  · next hpop =>
    obtain ⟨hpopped, hnext⟩ := h.poolPop hpop
    exact hpopped.acceptFirst hnext (by rw [poolPop_rxc hpop]; exact hnone) (by rw [poolPop_rxc hpop]; exact hdefn) f

theorem decideNext (h : Own s A) {n : ChanId} {p : Assembly} (hp : (s.rxc n).part = some p) (df : RxDef) {f : DataFrame}
    (hcount : f.last = false → p.count < Config.partialLimit) : Own (s.decideNext n df p f).2 A := by
  unfold State.decideNext
  split
  · exact h.starve n _ f
  · next hpop =>
    obtain ⟨hpopped, hnext⟩ := h.poolPop hpop
    exact hpopped.acceptNext hnext (by rw [poolPop_rxc hpop]; exact hp) hcount

theorem discardNext (h : Own s A) {n : ChanId} (hstate : (s.rxc n).state ≠ .assembling) (f : DataFrame) :
    Own (s.discardNext n f) A := by
  have hnone : (s.rxc n).part = none := Option.eq_none_iff_forall_ne_some.mpr fun p hp => hstate (h.rx n p hp).state
  unfold State.discardNext
  refine Own.setRx (h.recordTally n f) ?_ (rxHolds_none ?_)
  · exact ite_keeps (Q := fun c : RxChan => c.part = (s.rxc n).part) (fun _ => rfl) fun _ => rfl
  · exact ite_keeps (Q := fun c : RxChan => c.part = none) (fun _ => hnone) fun _ => hnone

theorem replyDecision (h : Own s A) (n : ChanId) (f : DataFrame) : Own (s.replyDecision n f).2 A := by
  unfold State.replyDecision
  dsimp only
  split
  · exact h
  next df hdf =>
  split
  · exact h
  have hdefn : (s.rxc n).defn.isSome = true := by rw [hdf]; rfl
  split_ifs with hseen hshape hfirst hother hrestart hfrom hdiscard
  · exact ite_keeps (Q := (Own · A)) (fun _ => h.setRx rfl (rxHolds_congr (h.rx n) rfl rfl rfl)) fun _ => h
  · exact ite_keeps (Q := (Own · A)) (fun _ => h.abandonTo n .idle) fun _ => h
  · exact h
  · refine (h.abandonTo n .idle).decideFirst ?_ ?_ df f
    · rw [abandonTo_rxc, if_pos rfl]
      rfl
    · rw [abandonTo_rxc, if_pos rfl]
      exact hdefn
  · refine h.decideFirst (Option.eq_none_iff_forall_ne_some.mpr fun p hp => ?_) hdefn df f
    have hstate := (h.rx n p hp).state
    simp [RxChan.busy, RxChan.busyFrom, RxChan.assemblingFrom, hstate] at hother hrestart
    exact hrestart hother
  · split
    · next p hp =>
      refine h.decideNext hp df fun hlast => lt_of_le_of_ne (h.rx n p hp).count fun hcount => hshape ?_
      simp [shapeViolation, hlast, Bool.not_eq_true _ ▸ hfirst, hfrom, hp, hcount]
    · exact h
  · refine h.discardNext (fun hstate => ?_) f
    simp [RxChan.discardingFrom, hstate] at hdiscard
  · exact h

end Own

end Sys2Proof.Machine
end

section
/-! PROOFS. Every command keeps ownership in agreement with queues and chains (R7, R24). -/

namespace Sys2Proof.Machine

open Sys2Proof.Safety

variable {s t : State} {A : List DescId}

/-- A failed message leaves no message in hand. -/
theorem failMessage_msg {n : ChanId} (hdefn : (s.txc n).defn.isSome = true) (st : DescStatus) :
    ((s.failMessage n st).txc n).msg = none := by
  cases hmsg : (s.txc n).msg with
  | none => rw [failMessage_none s n st hmsg, hmsg]
  | some h =>
    rw [failMessage_txc_self s st hdefn (by rw [hmsg]; rfl)]
    rfl

namespace Own

/-! ## Messages that end or move on (R94 to R99) -/

theorem endMessage (h : Own s A) (n : ChanId) (st : DescStatus) : Own (s.endMessage n st) A := by
  unfold State.endMessage
  split
  · next df d hdf hmsg =>
    rw [← handBack_setTx]
    have hsame : isChain (s.setTx n ((s.txc n).ended st)) (s.chain d) = isChain s (s.chain d) :=
      isChain_congr_next fun _ _ => rfl
    exact handBack (s := s.setTx n ((s.txc n).ended st)) (h.dropMessage hmsg rfl)
      (hsame.trans (h.message_owned hmsg).chain) st df.station n
  · exact h

/-- A context whose state and chains stay as they are. -/
theorem keepTx (h : Own s A) {n : ChanId} {c : TxChan} (hmsg : c.msg = (s.txc n).msg) (hcur : c.cur = (s.txc n).cur)
    (hstate : c.state = (s.txc n).state ∨ c.state ≠ .idle) : Own (s.setTx n c) A := by
  refine h.setTx hmsg ⟨fun hidle => ?_, fun e d he hd => (h.tx n).2 e d (hmsg ▸ he) (hcur ▸ hd)⟩
  rw [hmsg]
  exact (h.tx n).1 ((hstate.resolve_right fun hne => hne hidle).symm.trans hidle)

/-- A message that starts again at its head. -/
theorem rewound (h : Own s A) (n : ChanId) : Own (s.setTx n (s.txc n).rewound) A := by
  refine h.setTx rfl ⟨(h.tx n).1, fun e d he hd => ?_⟩
  obtain rfl : e = d := Option.some.inj (he.symm.trans hd)
  exact mem_chain_self s e

theorem failMessage (h : Own s A) (n : ChanId) (st : DescStatus) : Own (s.failMessage n st) A := by
  have htally : Own (s.advanceTally n) A := h.keepTx rfl rfl (.inl rfl)
  exact ite_keeps (Q := (Own · A)) (fun _ => htally.endMessage n st) fun _ => h.endMessage n st

theorem outcomeTaken (h : Own s A) (n : ChanId) : Own (s.outcomeTaken n) A := by
  have htally : Own (s.advanceTally n) A := h.keepTx rfl rfl (.inl rfl)
  refine ite_keeps (Q := (Own · A)) (fun _ => htally.endMessage n .delivered) fun _ => ?_
  refine h.setTx rfl ⟨(h.tx n).1, fun e d he hd => ?_⟩
  change s.nextSegment n = some d at hd
  unfold State.nextSegment at hd
  split at hd
  · next x hx =>
    exact linked_next_mem (isChain_iff.mp (h.message_owned he).chain).1 ((h.tx n).2 e x he hx) hd
  · cases hd

theorem outcomeEffect (h : Own s A) (n : ChanId) (o : Option ReplyCode) : Own (s.outcomeEffect n o) A := by
  match o with
  | some .taken => exact h.outcomeTaken n
  | some .seen => exact h.outcomeTaken n
  | some .later =>
    have hlater : Own (s.setTx n { s.txc n with laters := (s.txc n).laters + 1, attempts := 0 }) A :=
      h.keepTx rfl rfl (.inl rfl)
    exact ite_keeps (Q := (Own · A)) (fun _ => hlater.failMessage n _) fun _ => hlater
  | some .closed => exact h.failMessage n _
  | some .lost => exact h.failMessage n _
  | none =>
    have hcount : Own (s.count .unanswered) A := h.same rfl rfl rfl rfl
    have hdoubt : Own ((s.count .unanswered).setTx n { s.txc n with doubt := true }) A := hcount.keepTx rfl rfl (.inl rfl)
    exact ite_keeps (Q := (Own · A)) (fun _ => hdoubt.failMessage n _) fun _ => hdoubt

theorem applyOutcome (h : Own s A) (n : ChanId) (o : Option ReplyCode) : Own (s.applyOutcome n o) A :=
  (h.outcomeEffect n o).keepTx rfl rfl (.inl rfl)

theorem completeTeardown (h : Own s A) (n : ChanId) : Own (s.completeTeardown n) A := by
  unfold State.completeTeardown
  split
  · exact h
  · next df hdf =>
    have hpushed := fun k total => ((h.failMessage n .cancelled).flush df.submit .cancelled df.station n k).pushMarker
      df.notice df.station n total
    have hmsg := failMessage_msg (s := s) (n := n) (by rw [hdf]; rfl) .cancelled
    have hframe := fun k total => ((Updates.refl (P := fun _ => False) (s.failMessage n .cancelled)).flush df.submit
      .cancelled df.station n k).pushMarker df.notice df.station n total
    refine Own.setTx (hpushed _ _) ?_ ⟨fun _ => rfl, fun e d he => by cases he⟩
    rw [State.txc, (hframe _ _).tx_eq id]
    exact hmsg.symm

theorem finishTearing (h : Own s A) (n : ChanId) : Own (s.finishTearing n) A :=
  ite_keeps (Q := (Own · A)) (fun _ => h.completeTeardown n) fun _ => h

theorem absenceTreatment (h : Own s A) (a : Station) (n : ChanId) : Own (s.absenceTreatment a n) A := by
  unfold State.absenceTreatment
  split
  · exact h
  · exact ite_keeps (Q := (Own · A)) (fun _ => ite_keeps (Q := (Own · A)) (fun _ => h.failMessage n _) fun _ =>
      ite_keeps (Q := (Own · A)) (fun _ => h.rewound n) fun _ => h) fun _ => h

theorem interruptChan (h : Own s A) (n : ChanId) : Own (s.interruptChan n) A := by
  unfold State.interruptChan
  split
  · exact h
  · have hcount : Own (s.setTx n { s.txc n with absence := 0 }) A := h.keepTx rfl rfl (.inl rfl)
    dsimp only
    generalize s.setTx n { s.txc n with absence := 0 } = u at hcount
    have hended : Own (if (u.txc n).doubt then u.failMessage n .noAnswer else u.setTx n (u.txc n).rewound) A :=
      ite_keeps (Q := (Own · A)) (fun _ => hcount.failMessage n _) fun _ => hcount.rewound n
    exact ite_keeps (Q := (Own · A)) (fun _ => hended.keepTx rfl rfl (.inl rfl)) fun _ => hcount

theorem absenceExpires (h : Own s A) (n : ChanId) (df : TxDef) : Own (s.absenceExpires n df) A := by
  have hended : Own (if (s.txc n).msg.isSome then s.failMessage n .absent
      else s.handBackOldest df.submit .absent df.station n) A :=
    ite_keeps (Q := (Own · A)) (fun _ => h.failMessage n _) fun _ => h.handBackOldest _ _ _ _
  exact hended.keepTx rfl rfl (.inl rfl)

theorem advanceAbsence (h : Own s A) (n : ChanId) : Own (s.advanceAbsence n) A := by
  unfold State.advanceAbsence
  split
  · exact h
  · have hcount : Own (s.setTx n { s.txc n with absence := (s.txc n).absence + 1 }) A := h.keepTx rfl rfl (.inl rfl)
    exact ite_keeps (Q := (Own · A)) (fun _ => ite_keeps (Q := (Own · A)) (fun _ => hcount.absenceExpires n _)
      fun _ => hcount) fun _ => h

/-- Descriptors in hand all given to one owner. -/
theorem setOwners (h : Own s A) {l : List DescId} (hl : ∀ e ∈ l, e ∈ A) (o : Owner) : Own (s.setOwners l o) A := by
  refine h.redesc ?_ ?_ ?_ fun e he => ?_
  · rw [setOwners_frame]
  · rw [setOwners_frame]
  · rw [setOwners_frame]
  · rw [setOwners_desc, if_neg fun hmem => he (hl e hmem)]
    exact ⟨rfl, rfl⟩

/-- A take makes the oldest entry the message in hand, or hands it back (R9, R89). -/
theorem take (h : Own s A) {n : ChanId} (hnone : (s.txc n).msg = none) : Own (s.take n) A := by
  unfold State.take
  split
  · exact h
  next df _ =>
  split
  · exact h
  next d rest hq =>
  refine ite_keeps (Q := (Own · A)) (fun _ => ?_) fun _ => (h.handBackOldest _ _ _ _).same rfl rfl rfl rfl
  have howned := h.entry_owned (hq ▸ List.mem_cons_self)
  have hpopped : Own (s.setQueue df.submit rest) (s.chain d ++ A) := h.popQueue hq
  have htaken := hpopped.setOwners (fun e he => List.mem_append_left A he) (.transit n)
  have hdesc := setOwners_desc (s.setQueue df.submit rest) (s.chain d) (.transit n)
  have htxc : ((s.setQueue df.submit rest).setOwners (s.chain d) (.transit n)).txc n = s.txc n := by
    rw [setOwners_frame]
    rfl
  dsimp only
  generalize (s.setQueue df.submit rest).setOwners (s.chain d) (.transit n) = u at *
  have hnext : ∀ e, (u.desc e).next = (s.desc e).next := fun e => by rw [hdesc]; rfl
  have hsame : u.chain d = s.chain d := chain_congr _ hnext d
  have hhand : Owned u (.transit n) (u.chain d) := by
    rw [hsame]
    refine ⟨(isChain_congr_next fun e _ => hnext e).trans howned.chain, fun e he => ?_, fun e he => ?_, (fun heq => by cases heq)⟩
    · rw [hdesc, if_pos (List.mem_of_mem_head? he)]
    · rw [hdesc, if_pos (List.mem_of_mem_tail he)]
      rfl
  rw [← hsame] at htaken
  refine htaken.holdMessage hhand (by rw [htxc]; exact hnone) rfl ⟨(fun hidle => by cases hidle), fun a b ha hb => ?_⟩
  obtain rfl : d = a := Option.some.inj ha
  obtain rfl : d = b := Option.some.inj hb
  exact mem_chain_self u d

theorem kept : Kept (Own · []) where
  count _ h := h.same rfl rfl rfl rfl
  raise _ h := h.same rfl rfl rfl rfl
  tallies _ h := h.same rfl rfl rfl rfl
  port _ _ h := h.same rfl rfl rfl rfl
  request _ h := h.same rfl rfl rfl rfl
  roster _ _ h := h.same rfl rfl rfl rfl
  cursor _ _ _ h := h.same rfl rfl rfl rfl
  patienceOf a n h := h.patienceOf a n
  sourceAbsent a n h := h.sourceAbsent a n
  chanOffline n h := h.chanOffline n
  answered n o _ h := (h.applyOutcome n o).finishTearing n
  absenceTreatment a n h := h.absenceTreatment a n
  absence _ h := h.keepTx rfl rfl (.inl rfl)
  interruptChan n h := h.interruptChan n
  advanceAbsence n h := h.advanceAbsence n
  take n idle h := h.take ((h.tx n).1 idle)
  line _ _ _ _ h := h.same rfl rfl rfl rfl
  station _ h := h.same rfl rfl rfl rfl
  sent _ h := h.keepTx rfl rfl (.inl rfl)

/-! ## Host commands -/

theorem answering (h : Own s A) (st : Status) (rs : List Byte) : Own (s.answering st rs) A := h.same rfl rfl rfl rfl

theorem atPort {u : State} (h : Own s A) (hu : Own u A) : Own (s.atPort u) A :=
  ite_keeps (Q := (Own · A)) (fun _ => h.same rfl rfl rfl rfl) fun _ =>
    ite_keeps (Q := (Own · A)) (fun _ => h.answering _ _) fun _ => hu

theorem withTx (h : Own s A) {n : Byte} {act : ChanId → State} (hact : ∀ i, Own (act i) A) : Own (s.withTx n act) A := by
  refine h.atPort ?_
  split
  · exact h.answering _ _
  · exact ite_keeps (Q := (Own · A)) (fun _ => h.answering _ _) fun _ =>
      ite_keeps (Q := (Own · A)) (fun _ => h.answering _ _) fun _ => hact _

theorem withRx (h : Own s A) {n : Byte} {act : ChanId → State} (hact : ∀ i, Own (act i) A) : Own (s.withRx n act) A := by
  refine h.atPort ?_
  split
  · exact h.answering _ _
  · exact ite_keeps (Q := (Own · A)) (fun _ => h.answering _ _) fun _ =>
      ite_keeps (Q := (Own · A)) (fun _ => h.answering _ _) fun _ => hact _

end Own

/-- What the walk of PUSH holds is a whole chain of the host (R27). -/
theorem walkFrom_held {fuel : Nat} {seen ms : List DescId} {d : DescId} (hseen : seen.Nodup)
    (h : walkFrom s.descs fuel seen d = .held ms) :
    ∃ l, ms = seen ++ d :: l ∧ linked s (d :: l) = true ∧ ms.Nodup ∧ ms.length ≤ Config.chainLimit
      ∧ ∀ e ∈ d :: l, (s.desc e).owner = .host := by
  induction fuel generalizing seen d with
  | zero => cases h
  | succ fuel ih =>
    unfold walkFrom at h
    split_ifs at h with hmem hfull howner
    have hnodup : (seen ++ [d]).Nodup := hseen.append (List.nodup_singleton d) (List.disjoint_singleton.mpr hmem)
    have hhost : (s.desc d).owner = .host := not_not.mp howner
    split at h
    · next hnext =>
      obtain rfl := Walk.held.inj h
      refine ⟨[], rfl, by simpa [linked, State.desc] using hnext, hnodup, ?_, fun e he => ?_⟩
      · rw [List.length_append]
        exact Nat.not_le.mp hfull
      · obtain rfl := List.mem_singleton.mp he
        exact hhost
    · next e hnext =>
      obtain ⟨l, hms, hlinked, hall, hlength, hown⟩ := ih hnodup h
      refine ⟨e :: l, by rw [hms, List.append_assoc]; rfl, ?_, hall, hlength, List.forall_mem_cons.mpr ⟨hhost, hown⟩⟩
      rw [linked, hlinked, show (s.desc d).next = some e from hnext]
      simp

theorem State.isChain_of_walk {d : DescId} {ms : List DescId} (h : s.walk d = .held ms) :
    ms = s.chain d ∧ isChain s ms = true ∧ ∀ e ∈ ms, (s.desc e).owner = .host := by
  obtain ⟨l, hms, hlinked, hnodup, hlength, hown⟩ := walkFrom_held List.nodup_nil h
  rw [List.nil_append] at hms
  subst hms
  have hchain := isChain_iff.mpr ⟨hlinked, hnodup, hlength⟩
  exact ⟨(chain_of_isChain s hchain).symm, hchain, hown⟩

namespace Own

/-- A PUSH queues a chain of the host (R28). -/
theorem pushMembers (h : Own s []) {d : DescId} {ms : List DescId} (hwalk : s.walk d = .held ms) (q : QueueId) :
    Own (s.pushMembers q d ms) [] := by
  obtain ⟨rfl, hchain, hown⟩ := State.isChain_of_walk hwalk
  have hclaimed := h.claim (isChain_iff.mp hchain).2.1 hown
  have hu := (hclaimed.setOwners (fun _ he => he) .linked).setDesc (mem_chain_self s d)
    { (s.setOwners (s.chain d) .linked).desc d with owner := .queued q }
  have hdesc := pushMembers_desc s q d (members := s.chain d)
  change ∀ e, ((s.setOwners (s.chain d) .linked).setOwner d (.queued q)).desc e = _ at hdesc
  change Own ((s.setOwners (s.chain d) .linked).setOwner d (.queued q)) _ at hu
  change Own (((s.setOwners (s.chain d) .linked).setOwner d (.queued q)).setQueue q
    (((s.setOwners (s.chain d) .linked).setOwner d (.queued q)).queue q ++ [d])) []
  generalize (s.setOwners (s.chain d) .linked).setOwner d (.queued q) = u at *
  have hnext : ∀ e, (u.desc e).next = (s.desc e).next := fun e => by rw [hdesc]
  have hsame : u.chain d = s.chain d := chain_congr _ hnext d
  refine pushOwned (by rw [hsame, List.append_nil]; exact hu) ?_ (by rw [hdesc, if_pos rfl]) fun e he => ?_
  · rw [hsame]
    exact (isChain_congr_next fun e _ => hnext e).trans hchain
  · rw [hsame] at he
    obtain ⟨l, hl⟩ := chain_eq_cons s d
    have hne : e ≠ d := by
      rintro rfl
      have hnodup := (isChain_iff.mp hchain).2.1
      rw [hl] at hnodup he
      exact (List.nodup_cons.mp hnodup).1 he
    rw [hdesc, if_neg hne, if_pos (List.mem_of_mem_tail he)]

/-- A POP hands a chain to the host (R29). -/
theorem popToHost (h : Own s []) {q : QueueId} {d : DescId} {rest : List DescId} (hq : s.queue q = d :: rest) :
    Own ((s.setQueue q rest).setOwners (s.chain d) .host) [] := by
  have hpopped : Own (s.setQueue q rest) (s.chain d ++ []) := h.popQueue hq
  refine (hpopped.setOwners (fun e he => List.mem_append_left [] he) .host).letGo fun e he => ?_
  rw [setOwners_desc, if_pos he]

/-- WRITE_DESC writes a descriptor of the host (R19). -/
theorem writeDesc (h : Own s []) {d : DescId} (hown : (s.desc d).owner = .host) {x : Desc} (hx : x.owner = .host) :
    Own (s.setDesc d x) [] := by
  have hclaimed := h.claim (List.nodup_singleton d) fun e he => List.mem_singleton.mp he ▸ hown
  refine letGo (l := [d]) (hclaimed.setDesc (List.mem_singleton_self d) x) fun e he => ?_
  obtain rfl := List.mem_singleton.mp he
  rw [State.desc_setDesc, if_pos rfl]
  exact hx

/-- A channel without a message is opened (R107, R108). -/
theorem opened (h : Own s []) {n : ChanId} (hnone : (s.txc n).msg = none) : Own (s.setTx n (s.txc n).opened) [] :=
  h.setTx hnone.symm ⟨fun _ => rfl, fun e d he => by cases he⟩

/-- A channel without a partial is at rest (R133, R134, R137). -/
theorem atRest (h : Own s []) {n : ChanId} (hstate : (s.rxc n).state ≠ .assembling) (st : RxState) :
    Own (s.setRx n ((s.rxc n).atRest st)) [] := by
  have hnone : (s.rxc n).part = none := Option.eq_none_iff_forall_ne_some.mpr fun p hp => hstate (h.rx n p hp).state
  exact h.setRx hnone.symm (rxHolds_none rfl)

/-- FIX finds every channel DISABLED, with nothing in hand (R187). -/
theorem freeze (h : Own s []) (hmsg : ∀ n, (s.txc n).msg = none) (hpart : ∀ n, (s.rxc n).part = none) :
    Own s.freeze [] := by
  obtain ⟨hframe, htxc, hrxc⟩ := s.freeze_spec
  have hnomsg : ∀ n, (s.freeze.txc n).msg = none := fun n => by rw [htxc]; rfl
  have hnopart : ∀ n, (s.freeze.rxc n).part = none := fun n => by rw [hrxc]; rfl
  refine h.reframe (by rw [hframe]) (fun n => (hnomsg n).trans (hmsg n).symm) (fun n => (hnopart n).trans (hpart n).symm)
    (fun e _ => ?_) (fun n => ⟨fun _ => hnomsg n, fun e d he => ?_⟩) fun n => rxHolds_none (hnopart n)
  · rw [hframe]
    exact ⟨rfl, rfl⟩
  · rw [hnomsg] at he
    cases he

theorem clearCounters (h : Own s []) : Own s.clearCounters [] :=
  foldl_keeps (Q := (Own · [])) (fun u n hu =>
    hu.setRx (c := (u.rxc n).countersCleared) rfl (rxHolds_congr (hu.rx n) rfl rfl rfl)) _
    (h.same (t := { s with counters := Counters.zero }) rfl rfl rfl rfl)

end Own

/-- Resets and configuration commands. -/
theorem Replaced.own {c : Instr} (hu : Replaced c s t) (h : Own s []) : Own t [] := by
  cases hu with
  | reset hc st hst a answer skips =>
    have hreset : Own State.reset [] := by
      refine ⟨⟨fun x hx => ?_, ?_, fun d hd => ?_⟩, fun n => ?_, fun n => Own.rxHolds_none (by rw [reset_rxc]; rfl)⟩
      · have hnone := heldChains_eq State.reset
        rw [heldChains_reset] at hnone
        rw [List.map_eq_nil_iff.mp hnone.symm] at hx
        cases hx
      · have hnone := heldChains_eq State.reset
        rw [heldChains_reset] at hnone
        rw [List.map_eq_nil_iff.mp hnone.symm]
        exact List.nodup_nil
      · rw [reset_desc] at hd
        exact absurd rfl hd
      · rw [reset_txc]
        exact ⟨fun _ => rfl, fun e d he => by cases he⟩
    exact hreset.same rfl rfl rfl rfl
  | tx hst n df answer =>
    have hset : Own (s.setTx n { s.txc n with defn := some df }) [] := h.keepTx rfl rfl (.inl rfl)
    exact hset.same rfl rfl rfl rfl
  | rx hst n df hdf answer =>
    have hset : Own (s.setRx n { s.rxc n with defn := some df }) [] := by
      refine h.setRx rfl fun p hp => ?_
      have hholds := h.rx n p hp
      exact ⟨hholds.state, rfl, hholds.count, hholds.length, hholds.tail⟩
    exact hset.same rfl rfl rfl rfl
  | onlyAnswered => exact h.same rfl rfl rfl rfl
  | cleared => exact h.same rfl rfl rfl rfl
  | line => exact h.same rfl rfl rfl rfl
  | schedule => exact h.same rfl rfl rfl rfl

end Sys2Proof.Machine
end

section
/-! PROOFS. Ownership follows queues and chains at every step (R7, R24). -/

namespace Sys2Proof.Machine

open Sys2Proof.Safety

variable {s t : State}

/-- A channel that is neither ACTIVE nor TEARING has no message in hand (R84). -/
theorem msg_none_of_state (ht : TransmitSound s) {n : ChanId} (hactive : (s.txc n).state ≠ .active)
    (htearing : (s.txc n).state ≠ .tearing) : (s.txc n).msg = none := by
  refine Option.not_isSome_iff_eq_none.mp fun hmsg => ?_
  exact ((txContextSound_msg (ht.1 n)).mp hmsg).elim hactive htearing

/-- The commands that neither move turns nor replace blocks. -/
theorem Own.exec_quiet {c : Instr} (hc : replaces c = false) (hmoves : movesTurns c = false) (ht : TransmitSound s)
    (hr : ReceiveSound s) (h : Own s []) (hexec : exec c s = .next t) : Own t [] := by
  cases c with
  | fix =>
    obtain rfl := Host.Outcome.next.inj hexec
    refine h.atPort (ite_keeps (Q := (Own · [])) (fun hst => ?_) fun _ => h.answering _ _)
    refine ite_keeps (Q := (Own · [])) (fun _ => (h.freeze (fun n => ?_) fun n => ?_).answering _ _) fun _ => h.answering _ _
    · have hdisabled := ht.2.1 (.inr hst) n
      exact msg_none_of_state ht (by rw [hdisabled]; decide) (by rw [hdisabled]; decide)
    · have hdisabled := hr.2 (.inr hst) n
      refine Option.eq_none_iff_forall_ne_some.mpr fun p hp => ?_
      have hstate := (h.rx n p hp).state
      rw [hdisabled] at hstate
      cases hstate
  | push q d =>
    obtain rfl := Host.Outcome.next.inj hexec
    refine h.atPort ?_
    split
    · exact h.answering _ _
    · split
      · next hwalk => exact (h.pushMembers hwalk _).answering _ _
      · exact h.answering _ _
      · exact h.answering _ _
  | pop q =>
    obtain rfl := Host.Outcome.next.inj hexec
    refine h.atPort ?_
    split
    · exact h.answering _ _
    · split
      · exact h.answering _ _
      · next hq => exact (h.popToHost hq).answering _ _
  | queueStatus q =>
    obtain rfl := Host.Outcome.next.inj hexec
    refine h.atPort ?_
    split
    · exact h.answering _ _
    · exact h.answering _ _
  | readDesc d =>
    obtain rfl := Host.Outcome.next.inj hexec
    exact h.atPort (h.answering _ _)
  | writeDesc d fill ni nm rq l =>
    obtain rfl := Host.Outcome.next.inj hexec
    refine h.atPort ?_
    split
    · refine ite_keeps (Q := (Own · [])) (fun _ => h.answering _ _) fun hown => ?_
      refine Own.answering (Own.writeDesc h (not_not.mp hown) ?_) _ _
      exact not_not.mp hown
    · exact h.answering _ _
  | readBuffer d o k =>
    obtain rfl := Host.Outcome.next.inj hexec
    exact h.atPort (ite_keeps (Q := (Own · [])) (fun _ => h.answering _ _) fun _ =>
      ite_keeps (Q := (Own · [])) (fun _ => h.answering _ _) fun _ => h.answering _ _)
  | writeBuffer d o k data =>
    obtain rfl := Host.Outcome.next.inj hexec
    refine ite_keeps (Q := (Own · [])) (fun _ => h.same rfl rfl rfl rfl) fun _ => h.atPort
      (ite_keeps (Q := (Own · [])) (fun _ => h.answering _ _) fun _ => ite_keeps (Q := (Own · [])) (fun _ => h.answering _ _)
        fun _ => h.same rfl rfl rfl rfl)
  | enableTx n =>
    obtain rfl := Host.Outcome.next.inj hexec
    refine h.withTx fun i => ite_keeps (Q := (Own · [])) (fun hst => (h.opened ?_).answering _ _) fun _ => h.answering _ _
    exact msg_none_of_state ht (by rw [hst]; decide) (by rw [hst]; decide)
  | clearTx n =>
    obtain rfl := Host.Outcome.next.inj hexec
    refine h.withTx fun i => ite_keeps (Q := (Own · [])) (fun hst => (h.opened ?_).answering _ _) fun _ => h.answering _ _
    exact msg_none_of_state ht (by rw [hst]; decide) (by rw [hst]; decide)
  | teardownTx n =>
    obtain rfl := Host.Outcome.next.inj hexec
    refine h.withTx fun i => ?_
    have hdone := (h.completeTeardown i).answering .done []
    split
    · exact h.answering _ _
    · exact h.answering _ _
    · exact hdone
    · exact hdone
    · refine ite_keeps (Q := (Own · [])) (fun _ => (h.keepTx (c := { s.txc i with state := .tearing }) rfl rfl
        (.inr fun hidle => by cases hidle)).answering _ _) fun _ => hdone
  | enableRx n =>
    obtain rfl := Host.Outcome.next.inj hexec
    refine h.withRx fun i => ite_keeps (Q := (Own · [])) (fun hst => ?_) fun _ => h.answering _ _
    have hcleared : Own (s.clearTallyRow i) [] := h.same rfl rfl rfl rfl
    exact (hcleared.atRest (n := i) (by change (s.rxc i).state ≠ _; rw [hst]; decide) .idle).answering _ _
  | haltRx n =>
    obtain rfl := Host.Outcome.next.inj hexec
    refine h.withRx fun i => ?_
    split
    · exact h.answering _ _
    · exact h.answering _ _
    · next hst => exact (h.atRest (by rw [hst]; decide) .halted).answering _ _
    · exact (h.abandonTo i .halted).answering _ _
    · exact (h.abandonTo i .halted).answering _ _
  | clearRx n =>
    obtain rfl := Host.Outcome.next.inj hexec
    exact h.withRx fun i => ite_keeps (Q := (Own · []))
      (fun hst => (h.atRest (by rw [hst]; decide) .idle).answering _ _) fun _ => h.answering _ _
  | teardownRx n =>
    obtain rfl := Host.Outcome.next.inj hexec
    exact h.withRx fun i => ite_keeps (Q := (Own · [])) (fun _ => h.answering _ _) fun _ =>
      (h.completeRxTeardown i).answering _ _
  | readStation =>
    obtain rfl := Host.Outcome.next.inj hexec
    exact h.atPort (h.answering _ _)
  | readRoster =>
    obtain rfl := Host.Outcome.next.inj hexec
    exact h.atPort (h.answering _ _)
  | readTx n =>
    obtain rfl := Host.Outcome.next.inj hexec
    refine h.atPort ?_
    split
    · exact h.answering _ _
    · exact h.answering _ _
  | readRx n =>
    obtain rfl := Host.Outcome.next.inj hexec
    refine h.atPort ?_
    split
    · exact h.answering _ _
    · exact h.answering _ _
  | readCounters option =>
    obtain rfl := Host.Outcome.next.inj hexec
    exact h.atPort (ite_keeps (Q := (Own · [])) (fun _ => h.answering _ _) fun _ => ite_keeps (Q := (Own · []))
      (fun _ => h.clearCounters.answering _ _) fun _ => h.answering _ _)
  | readEvents =>
    obtain rfl := Host.Outcome.next.inj hexec
    exact h.atPort (h.same rfl rfl rfl rfl)
  | unknownCommand code =>
    obtain rfl := Host.Outcome.next.inj hexec
    exact ite_keeps (Q := (Own · [])) (fun _ => h) fun _ => h.atPort (h.answering _ _)
  | transactionAbort bytes =>
    obtain rfl := Host.Outcome.next.inj hexec
    exact h.same rfl rfl rfl rfl
  | patienceExpiry n =>
    obtain rfl := Host.Outcome.next.inj hexec
    exact ite_keeps (Q := (Own · [])) (fun _ => h.abandonTo n .idle) fun _ => h
  | hardReset | startingEnd | restart | setLine | defineTx | defineRx | defineSchedule => cases hc
  | _ => cases hmoves

/-- Settles O47: chains leave and join the queues, messages and partials one at a time (`Holds.release`, `Holds.hold`), with
their descriptors in hand between; the treatments of turns keep the agreement (`Own.kept`), and so does every other
command. -/
theorem ownershipFollowsQueuesAndChains : Obligations.OwnershipFollowsQueuesAndChains := by
  intro s t ht hr h hstep
  have hown := own_of_sound ht hr h
  obtain rfl | ⟨c, rest, hexec⟩ := step_cases hstep
  · obtain ⟨k, hk⟩ := idleTick_eq s
    rw [hk]
    exact Own.sound (hown.same rfl rfl rfl rfl)
  · have ht : TransmitSound { s with pending := rest } := ht
    have hown : Own { s with pending := rest } [] := hown.same rfl rfl rfl rfl
    cases hreplaces : replaces c with
    | true => exact ((exec_replaced hreplaces hexec).own hown).sound
    | false =>
      cases hmoves : movesTurns c with
      | true =>
        exact (Own.kept.exec hmoves (fun _ _ f _ u hu => hu.replyDecision f.channel f) hown hexec).sound
      | false => exact (hown.exec_quiet hreplaces hmoves ht hr hexec).sound

end Sys2Proof.Machine
end

section
/-! PROOFS. Receive channels halted and torn down: what the return of a partial and the push of a marker do to every queue and
descriptor (R13, R128, R150, R153 to R155). -/

namespace Sys2Proof.Machine

open Sys2Proof.Safety

/-! ## The partial goes back (R13, R34, R128) -/

theorem partialDesc_cons (s : State) (df : RxDef) (h : DescId) (bs : List DescId) (e : DescId) :
    partialDesc s df (h :: bs) e =
      if e = h then { s.desc e with fill := 0, next := none, owner := .queued df.headPool }
      else if e ∈ bs then { s.desc e with fill := 0, next := none, owner := .queued df.bodyPool } else s.desc e := by
  unfold partialDesc
  by_cases he : e = h
  · simp [he]
  · have hne : ¬ h = e := fun heq => he heq.symm
    simp [he, hne]

/-- The channel after an abandonment, its counter written out (R135). -/
theorem abandonTo_rxc_min (s : State) (i m : ChanId) (st : RxState) :
    (s.abandonTo i st).rxc m =
      if m = i then
        { s.rxc i with state := st, source := none, part := none, idle := 0, progress := false,
                       abandons := min ((s.rxc i).abandons + 1) 255 }
      else s.rxc m := by
  rw [abandonTo_rxc, saturate_eq]
  simp only [eq_comm (a := i)]
  rfl

/-- What HALT_RX does past the shared checks, by channel state (R137). -/
theorem exec_haltRx {n : Byte} {i : ChanId} {s : State} (hn : n.toNat = i.val) (hs : portTakes s = true)
    (hst : s.station ≠ .unconfigured) (hd : (s.rxc i).defn ≠ none) :
    exec (.haltRx n) s = .next
      (match (s.rxc i).state with
        | .disabled => s.refuse .wrongState
        | .halted => s.refuse .wrongState
        | .idle => (s.setRx i ((s.rxc i).atRest .halted)).answering .done []
        | .assembling => (s.abandonTo i .halted).answering .done []
        | .discarding => (s.abandonTo i .halted).answering .done []) :=
  congrArg Host.Outcome.next (withRx_taken _ hs hn hst hd)

theorem exec_patienceExpiry {i : ChanId} {s : State} (hdue : s.patienceDue i = true) :
    exec (.patienceExpiry i) s = .next (s.abandonTo i .idle) :=
  congrArg Host.Outcome.next (if_pos hdue)

/-- The own turn end that takes the patience of a channel in ONLINE (R129). -/
theorem State.patienceDue_of {s : State} {i : ChanId} {df : RxDef} (hd : (s.rxc i).defn = some df)
    (hstate : (s.rxc i).state = .assembling) (honline : s.station = .online)
    (hsource : (s.rxc i).source = some s.turn.counter) (hprogress : (s.rxc i).progress = false)
    (hpatience : df.patience = (s.rxc i).idle + 1) : s.patienceDue i = true := by
  simp [State.patienceDue, hd, State.keepsTurns, honline, RxChan.busyFrom, RxChan.busy, hstate, hsource, hprogress, hpatience]

/-- Settles O20: HALT_RX is read off by channel state (`exec_haltRx`); both abandonments are `abandonTo` of a channel with a
partial, whose queues and descriptors are those of the partial's return (`returnPartial_spec`). -/
theorem abandonedPartialReturns : Obligations.AbandonedPartialReturns := by
  intro n i df s hn hs hst hd
  have hhalt := exec_haltRx hn hs hst (by rw [hd]; nofun)
  refine ⟨?refused, ?idle, ?discarding, ?abandoned⟩
  case refused =>
    rintro (hstate | hstate)
    · rw [hhalt, hstate]
      rfl
    · rw [hhalt, hstate]
      rfl
  case idle =>
    intro hstate
    rw [hhalt, hstate]
    refine ⟨_, rfl, rfl, fun m => ?_⟩
    rw [State.rxc_answering_other, State.rxc_setRx]
    simp only [eq_comm (a := i)]
    rfl
  case discarding =>
    intro hstate hpart
    rw [hhalt, hstate]
    refine ⟨_, rfl, ?_, fun m => abandonTo_rxc_min s i m .halted⟩
    unfold State.abandonTo
    rw [returnPartial_none s i (.inr hpart)]
    rfl
  case abandoned =>
    intro p bs c final answer hstate hpart hchain hc
    have hexec : ∃ t, exec c s = .next t ∧ t = { s.abandonTo i final with answer := answer } := by
      obtain ⟨rfl, rfl, rfl⟩ | ⟨rfl, rfl, rfl, honline, hsource, hprogress, hpatience⟩ := hc
      · rw [hhalt, hstate]
        exact ⟨_, rfl, rfl⟩
      · refine ⟨_, exec_patienceExpiry (State.patienceDue_of hd hstate honline hsource hprogress hpatience), ?_⟩
        rw [abandonTo_frame]
    obtain ⟨hqueue, hdesc⟩ := returnPartial_spec s i df p bs hd hpart hchain
    obtain ⟨t, hexec, rfl⟩ := hexec
    refine ⟨_, hexec, ?_, fun m => abandonTo_rxc_min s i m final, fun q => ?_, fun e => ?_⟩
    · rw [abandonTo_frame]
    · rw [List.append_assoc]
      exact hqueue q
    · exact (hdesc e).trans (partialDesc_cons s df p.head bs e)

/-! ## The marker (R147, R153 to R155) -/

/-- The push of a marker taken from the pool: the pool's oldest head leaves it, the rest of its chain becomes the pool's newest
entry, and the head joins the target as a marker (R11, R153). -/
theorem pushMarker_spec {s : State} {mk : DescId} {rest : List DescId} (hpool : s.queue s.cfg.markerPool = mk :: rest)
    (target : QueueId) (peer : Station) (n : ChanId) (total : Nat) :
    s.pushMarker target peer n total = { s with
      descs := (s.pushMarker target peer n total).descs, queues := (s.pushMarker target peer n total).queues }
    ∧ (∀ q, (s.pushMarker target peer n total).queue q =
        (if q = s.cfg.markerPool then rest ++ (s.desc mk).next.toList else s.queue q) ++ (if q = target then [mk] else []))
    ∧ ∀ e, (s.pushMarker target peer n total).desc e =
        if e = mk then markerDesc (s.desc mk) peer n total target
        else if (s.desc mk).next = some e then { s.desc e with owner := .queued s.cfg.markerPool } else s.desc e := by
  obtain ⟨-, hempty⟩ | ⟨h, rest', t, hpop, hqueue, hframe, htq, hth, hte⟩ := poolPop_cases s s.cfg.markerPool
  · rw [hempty] at hpool
    cases hpool
  obtain ⟨rfl, rfl⟩ := List.cons.inj (hqueue.symm.trans hpool)
  have hpush : s.pushMarker target peer n total
      = (t.setDesc h (markerRecord (t.desc h) peer n total target)).setQueue target (t.queue target ++ [h]) := by
    unfold State.pushMarker
    rw [hpop]
    rfl
  rw [hpush]
  refine ⟨?frame, fun q => ?queue, fun e => ?desc⟩
  case frame =>
    rw [hframe]
    rfl
  case queue =>
    have hpopped : ∀ r, t.queue r = if r = s.cfg.markerPool then rest' ++ (s.desc h).next.toList else s.queue r := fun r => by
      rw [htq]
      simp only [eq_comm (a := s.cfg.markerPool)]
      cases (s.desc h).next with
      | none => simp
      | some e => rfl
    rw [State.queue_setQueue, State.queue_setDesc_other, hpopped, hpopped]
    by_cases hq : q = target
    · rw [if_pos hq.symm, if_pos hq, hq]
    · rw [if_neg (Ne.symm hq), if_neg hq, List.append_nil]
  case desc =>
    rw [State.desc_setQueue_other, State.desc_setDesc]
    by_cases he : e = h
    · rw [if_pos he.symm, if_pos he, hth]
      rfl
    · rw [if_neg (Ne.symm he), if_neg he]
      exact hte e he

theorem pushMarker_empty {s : State} (hpool : s.queue s.cfg.markerPool = []) (target : QueueId) (peer : Station) (n : ChanId)
    (total : Nat) : s.pushMarker target peer n total = s.raise .noMarker := by
  obtain ⟨-, h⟩ | ⟨hne, -⟩ := pushMarker_cases s target peer n total
  · exact h
  · exact absurd hpool hne

/-! ## TEARDOWN_RX (R150) -/

theorem exec_teardownRx {n : Byte} {i : ChanId} {s : State} (hn : n.toNat = i.val) (hs : portTakes s = true)
    (hst : s.station ≠ .unconfigured) (hd : (s.rxc i).defn ≠ none) :
    exec (.teardownRx n) s = .next (if (s.rxc i).state = .disabled then s.refuse .wrongState
      else (s.completeRxTeardown i).answering .done []) :=
  congrArg Host.Outcome.next (withRx_taken _ hs hn hst hd)

/-- A completed receive teardown: after the partial's return a marker is pushed, and the channel and its tallies end (R150). -/
theorem completeRxTeardown_eq {s : State} {i : ChanId} {df : RxDef} (hd : (s.rxc i).defn = some df) :
    s.completeRxTeardown i =
      (((s.returnPartial i).pushMarker df.delivery s.ownAddr i (if (s.rxc i).part.isSome then 1 else 0)).clearTallyRow
        i).setRx i ((s.rxc i).atRest .disabled) := by
  unfold State.completeRxTeardown
  rw [hd]
  dsimp only
  have hown : (s.returnPartial i).ownAddr = s.ownAddr := by rw [returnPartial_frame]
  have hrx : ∀ total, ((s.returnPartial i).pushMarker df.delivery s.ownAddr i total).rxc i = s.rxc i := fun total => by
    rw [State.rxc, ((Updates.refl (P := fun _ => False) s).returnPartial i |>.pushMarker df.delivery s.ownAddr i total).rx_eq
      id]
    rfl
  rw [hown, State.rxc_clearTallyRow_other, hrx]

/-- What every completed teardown leaves of the channel and of the tallies, over any state with the channels of `s`. -/
theorem tornDownRx {s u : State} {i : ChanId} (hrx : u.rx = s.rx) (htallies : u.tallies = s.tallies) :
    (∀ m, ((u.clearTallyRow i).setRx i ((s.rxc i).atRest .disabled)).rxc m =
      if m = i then { s.rxc i with state := .disabled, source := none, part := none, idle := 0, progress := false }
      else s.rxc m)
    ∧ ∀ m a, ((u.clearTallyRow i).setRx i ((s.rxc i).atRest .disabled)).tallyOf m a =
      if m = i then none else s.tallyOf m a := by
  have hrxc : ∀ m, u.rxc m = s.rxc m := fun m => congrArg (fun v => look v m) hrx
  refine ⟨fun m => ?_, fun m a => ?_⟩
  · rw [State.rxc_setRx, State.rxc_clearTallyRow_other, hrxc]
    simp only [eq_comm (a := i)]
    rfl
  · rw [State.tallyOf_setRx_other, State.tallyOf_clearTallyRow, State.tallyOf, htallies]
    simp only [eq_comm (a := i)]
    rfl

/-- The teardown that finds a marker, over the state `u` that the partial's return leaves (R150, R153). -/
theorem tornDownRx_marker {s u : State} {i : ChanId} (hframe : u = { s with descs := u.descs, queues := u.queues })
    {mk : DescId} {rest : List DescId} (hpool : u.queue s.cfg.markerPool = mk :: rest) (target : QueueId) (total : Nat) :
    ∃ t, (((u.pushMarker target s.ownAddr i total).clearTallyRow i).setRx i ((s.rxc i).atRest .disabled)).answering .done []
        = t
      ∧ t = { s with rx := t.rx, tallies := t.tallies, queues := t.queues, descs := t.descs, answer := [0xA0#8] }
      ∧ (∀ m, t.rxc m =
          if m = i then { s.rxc i with state := .disabled, source := none, part := none, idle := 0, progress := false }
          else s.rxc m)
      ∧ (∀ m a, t.tallyOf m a = if m = i then none else s.tallyOf m a)
      ∧ (∀ q, t.queue q = (if q = s.cfg.markerPool then rest ++ (u.desc mk).next.toList else u.queue q)
          ++ (if q = target then [mk] else []))
      ∧ ∀ e, t.desc e =
          if e = mk then markerDesc (u.desc mk) s.ownAddr i total target
          else if (u.desc mk).next = some e then { u.desc e with owner := .queued s.cfg.markerPool } else u.desc e := by
  have hcfg : u.cfg = s.cfg := by rw [hframe]
  rw [← hcfg] at hpool ⊢
  obtain ⟨hpush, hqueue, hdesc⟩ := pushMarker_spec hpool target s.ownAddr i total
  generalize u.pushMarker target s.ownAddr i total = v at *
  obtain ⟨hrxc, htally⟩ := tornDownRx (s := s) (u := v) (i := i) (by rw [hpush, hframe]) (by rw [hpush, hframe])
  refine ⟨_, rfl, ?_, hrxc, htally, hqueue, hdesc⟩
  rw [hpush, hframe]
  rfl

/-- The teardown that finds the marker pool empty (R155). -/
theorem tornDownRx_empty {s u : State} {i : ChanId} (hframe : u = { s with descs := u.descs, queues := u.queues })
    (hpool : u.queue s.cfg.markerPool = []) (target : QueueId) (total : Nat) :
    ∃ t, (((u.pushMarker target s.ownAddr i total).clearTallyRow i).setRx i ((s.rxc i).atRest .disabled)).answering .done []
        = t
      ∧ t = { s with rx := t.rx, tallies := t.tallies, queues := t.queues, descs := t.descs, answer := [0xA0#8],
                     events := { s.events with noMarker := true } }
      ∧ (∀ m, t.rxc m =
          if m = i then { s.rxc i with state := .disabled, source := none, part := none, idle := 0, progress := false }
          else s.rxc m)
      ∧ (∀ m a, t.tallyOf m a = if m = i then none else s.tallyOf m a)
      ∧ t.queues = u.queues ∧ t.descs = u.descs := by
  have hcfg : u.cfg = s.cfg := by rw [hframe]
  rw [← hcfg] at hpool
  rw [pushMarker_empty hpool]
  obtain ⟨hrxc, htally⟩ := tornDownRx (s := s) (u := u.raise .noMarker) (i := i) (by rw [hframe]; rfl) (by rw [hframe]; rfl)
  refine ⟨_, rfl, ?_, hrxc, htally, rfl, rfl⟩
  rw [hframe]
  rfl

/-- Settles O21: the partial goes back first (`returnPartial_spec`, or nothing without one); the teardown then pushes the
marker it finds (`tornDownRx_marker`) or sets NO_MARKER (`tornDownRx_empty`). -/
theorem teardownRxReturnsPartial : Obligations.TeardownRxReturnsPartial := by
  intro n i df s hn hs hst hd
  have hexec := exec_teardownRx hn hs hst (by rw [hd]; nofun)
  rw [completeRxTeardown_eq hd] at hexec
  refine ⟨?refused, ?marker, ?empty, ?assembling⟩
  case refused =>
    intro hstate
    rw [hexec, if_pos hstate]
    rfl
  case marker =>
    intro mk rest hstate hpart hpool
    rw [hexec, if_neg hstate, hpart, returnPartial_none s i (.inr hpart)]
    obtain ⟨t, rfl, hframe, hrxc, htally, hqueue, hdesc⟩ := tornDownRx_marker (i := i) rfl hpool df.delivery 0
    refine ⟨_, rfl, hframe, hrxc, htally, fun q => (hqueue q).trans ?_, hdesc⟩
    cases (s.desc mk).next with
    | none => simp
    | some e => rfl
  case empty =>
    intro hstate hpart hpool
    rw [hexec, if_neg hstate, hpart, returnPartial_none s i (.inr hpart)]
    obtain ⟨t, ht, hframe, hrxc, htally, hqueues, hdescs⟩ := tornDownRx_empty (i := i) rfl hpool df.delivery 0
    rw [hqueues, hdescs] at hframe
    exact ⟨t, congrArg Host.Outcome.next ht, hframe, hrxc, htally⟩
  case assembling =>
    intro p bs hstate hpart hchain
    rw [hexec, if_neg (by rw [hstate]; decide), hpart]
    have hframe := returnPartial_frame s i
    obtain ⟨hback, hdescs⟩ := returnPartial_spec s i df p bs hd hpart hchain
    generalize s.returnPartial i = u at hframe hback hdescs
    refine ⟨fun hpool => ?_, fun mk rest hpool => ?_⟩
    · obtain ⟨t, rfl, hall, hrxc, htally, hqueue, hdesc⟩ := tornDownRx_empty (i := i) hframe ((hback _).trans hpool)
        df.delivery 1
      exact ⟨_, rfl, hall, hrxc, htally, fun q => (congrArg (look · q) hqueue).trans (hback q),
        fun e => (congrArg (look · e) hdesc).trans (hdescs e)⟩
    · obtain ⟨t, rfl, hall, hrxc, htally, hqueue, hdesc⟩ := tornDownRx_marker (i := i) hframe ((hback _).trans hpool)
        df.delivery 1
      simp only [hback, hdescs] at hqueue hdesc
      exact ⟨_, rfl, hall, hrxc, htally, hqueue, hdesc⟩

end Sys2Proof.Machine
end

section
/-! PROOFS. Messages handed back: the transmit teardown, the three limits and the second miss (R99, R102, R103, R142 to R148,
R155). -/

namespace Sys2Proof.Machine

open Sys2Proof.Safety

variable {s : State}

/-! ## A message handed back (R6, R10, R99) -/

theorem if_eq_comm {α β : Type} [DecidableEq α] (a b : α) (x y : β) : (if a = b then x else y) = if b = a then x else y :=
  if_congr eq_comm rfl rfl

theorem messageDesc_cons (s : State) (peer : Station) (n : ChanId) (st : DescStatus) (h : DescId) (ms : List DescId)
    (e : DescId) :
    messageDesc s peer n st (h :: ms) e =
      if e = h then { s.desc h with status := st, peer := peer, channel := n, owner := .queued (s.desc h).returnQueue }
      else if e ∈ ms then { s.desc e with owner := .linked } else s.desc e := by
  unfold messageDesc
  by_cases he : e = h
  · simp [he]
  · have hne : ¬ h = e := fun heq => he heq.symm
    simp [he, hne]

/-- A chain is read from the descriptor table alone. -/
theorem isChain_of_descs {t : State} {l : List DescId} (hdescs : t.descs = s.descs) (h : isChain s l = true) :
    isChain t l = true :=
  (isChain_congr fun e _ => congrArg (look · e) hdescs).trans h

/-- A head handed back and one transmit context replaced: all that changes. -/
theorem handBack_setTx_spec {h : DescId} {ms : List DescId} (hchain : isChain s (h :: ms) = true) (st : DescStatus)
    (peer : Station) (k n : ChanId) (c : TxChan) :
    (s.handBack h st peer k).setTx n c = { s with
      tx := ((s.handBack h st peer k).setTx n c).tx, descs := ((s.handBack h st peer k).setTx n c).descs,
      queues := ((s.handBack h st peer k).setTx n c).queues }
    ∧ (∀ m, ((s.handBack h st peer k).setTx n c).txc m = if m = n then c else s.txc m)
    ∧ (∀ q, ((s.handBack h st peer k).setTx n c).queue q =
        s.queue q ++ (if q = (s.desc h).returnQueue then [h] else []))
    ∧ ∀ e, ((s.handBack h st peer k).setTx n c).desc e = messageDesc s peer k st (h :: ms) e := by
  refine ⟨?_, fun m => ?_, fun q => ?_, fun e => ?_⟩
  · rw [handBack_frame]
    rfl
  · rw [State.txc_setTx, if_eq_comm, handBack_frame]
    rfl
  · rw [State.queue_setTx_other, handBack_queue, if_eq_comm]
    split
    · rfl
    · exact (List.append_nil _).symm
  · rw [State.desc_setTx_other]
    exact handBack_messageDesc s h ms st peer k hchain e

/-- The context of a channel that is not TEARING once its message has ended with another status than CLOSED (R99). -/
theorem TxChan.ended_idle {c : TxChan} (hstate : c.state ≠ .tearing) {st : DescStatus} (hst : st ≠ .closed) :
    c.ended st = { c with state := .idle, msg := none, cur := none, attempts := 0, laters := 0, doubt := false } := by
  simp [TxChan.ended, stateAfterEnd, hstate, hst]

/-! ## The teardown of a channel (R144 to R148) -/

theorem exec_teardownTx {n : Byte} {i : ChanId} (hn : n.toNat = i.val) (hs : portTakes s = true)
    (hst : s.station ≠ .unconfigured) (hd : (s.txc i).defn ≠ none) :
    exec (.teardownTx n) s = .next
      (match (s.txc i).state with
        | .disabled => s.refuse .wrongState
        | .tearing => s.refuse .wrongState
        | .idle => (s.completeTeardown i).answering .done []
        | .halted => (s.completeTeardown i).answering .done []
        | .active =>
          if (s.txc i).outstanding then (s.setTx i { s.txc i with state := .tearing }).answering .done []
          else (s.completeTeardown i).answering .done []) :=
  congrArg Host.Outcome.next (withTx_taken _ hs hn hst hd)

/-- A completed teardown, with the channel's context taken from the state in which its message has ended (R144 to R148). -/
theorem completeTeardown_eq {n : ChanId} {df : TxDef} (hd : (s.txc n).defn = some df) :
    s.completeTeardown n =
      (((s.failMessage n .cancelled).flush df.submit .cancelled df.station n
          ((s.failMessage n .cancelled).queue df.submit).length).pushMarker df.notice df.station n
        ((if (s.txc n).msg.isSome then 1 else 0) + (s.queue df.submit).length)).setTx n
      ((s.failMessage n .cancelled).txc n).tornDown := by
  have hframe := fun k total => ((Updates.refl (P := fun _ => False) (s.failMessage n .cancelled)).flush df.submit
    .cancelled df.station n k).pushMarker df.notice df.station n total
  have htxc := fun k total => congrArg (look · n) ((hframe k total).tx_eq id)
  unfold State.completeTeardown
  rw [hd]
  exact congrArg (fun c => State.setTx _ n (TxChan.tornDown c)) (htxc _ _)

/-- A completed teardown when nothing waits on the submit queue. -/
theorem completeTeardown_nothingWaits {n : ChanId} {df : TxDef} (hd : (s.txc n).defn = some df)
    (hempty : s.queue df.submit = []) (hwait : (s.failMessage n .cancelled).queue df.submit = []) :
    s.completeTeardown n =
      ((s.failMessage n .cancelled).pushMarker df.notice df.station n (if (s.txc n).msg.isSome then 1 else 0)).setTx n
        ((s.failMessage n .cancelled).txc n).tornDown := by
  rw [completeTeardown_eq hd, hempty, hwait]
  rfl

/-- Settles O19: the message fails with CANCELLED, nothing waits, and the marker pool is empty, so the teardown is one hand-back
(`handBack_setTx_spec`) and NO_MARKER. -/
theorem teardownCancelsMessageInHand : Obligations.TeardownCancelsMessageInHand := by
  intro n i df h ms s hn hs hst hd hactive hout hmsg hchain hsubmit hpool hrqSubmit hrqPool
  rw [exec_teardownTx hn hs hst (by rw [hd]; nofun), hactive]
  dsimp only
  rw [hout, if_neg Bool.false_ne_true]
  have hfail := failMessage_eq s i .cancelled df h hd hmsg
  generalize hc : (({ s.txc i with tally := if (s.txc i).doubt then (s.txc i).tally + 1 else (s.txc i).tally } :
    TxChan).ended .cancelled) = c at hfail
  obtain ⟨hframe, htxc, hqueue, hdesc⟩ := handBack_setTx_spec hchain .cancelled df.station i i c
  rw [← hfail] at hframe htxc hqueue hdesc
  have hcfg : (s.failMessage i .cancelled).cfg = s.cfg := by rw [hframe]
  have hwait : (s.failMessage i .cancelled).queue df.submit = [] := by
    rw [hqueue, hsubmit, if_neg (Ne.symm hrqSubmit)]
    rfl
  have hmarkers : (s.failMessage i .cancelled).queue (s.failMessage i .cancelled).cfg.markerPool = [] := by
    rw [hcfg, hqueue, hpool, if_neg (Ne.symm hrqPool)]
    rfl
  rw [completeTeardown_nothingWaits hd hsubmit hwait, pushMarker_empty hmarkers, htxc, if_pos rfl]
  have htorn : c.tornDown =
      { defn := some df, tally := if (s.txc i).doubt then (s.txc i).tally + 1 else (s.txc i).tally,
        state := .disabled, msg := none, cur := none, attempts := 0, laters := 0, absence := 0, doubt := false,
        outstanding := false } := by
    rw [← hc, ← hd]
    rfl
  rw [htorn]
  generalize s.failMessage i .cancelled = u at *
  refine ⟨_, rfl, ?_, fun m => ?_, hqueue, fun e => (hdesc e).trans (messageDesc_cons s _ _ _ _ _ e)⟩
  · rw [hframe]
    rfl
  · rw [State.txc_answering_other, State.txc_setTx, State.txc_raise_other, htxc, if_eq_comm]
    split
    · rfl
    · rfl

/-! ## A submit queue flushed (R146) -/

/-- A flush of a whole queue whose messages name one other return queue: they join it in order, CANCELLED (R146). -/
theorem flush_spec {q rq : QueueId} (hq : rq ≠ q) (st : DescStatus) (peer : Station) (n : ChanId) {l : List DescId}
    (hl : s.queue q = l) (hnodup : l.Nodup) (howned : ∀ e ∈ l, (s.desc e).owner = .queued q)
    (hmembers : ∀ e ∈ l, (s.desc e).returnQueue = rq ∧ ∀ d ∈ (s.chain e).tail, (s.desc d).owner = .linked) :
    s.flush q st peer n l.length = { s with
      descs := (s.flush q st peer n l.length).descs, queues := (s.flush q st peer n l.length).queues }
    ∧ (∀ r, (s.flush q st peer n l.length).queue r =
        (if r = q then [] else s.queue r) ++ (if r = rq then l else []))
    ∧ ∀ e, (s.flush q st peer n l.length).desc e =
        if e ∈ l then { s.desc e with status := st, peer := peer, channel := n, owner := .queued rq } else s.desc e := by
  induction l generalizing s with
  | nil =>
    refine ⟨rfl, fun r => ?_, fun e => rfl⟩
    rw [ite_self, List.append_nil]
    split
    · next heq => exact heq ▸ hl
    · rfl
  | cons h l ih =>
    obtain ⟨hnew, hnodup⟩ := List.nodup_cons.mp hnodup
    obtain ⟨hrq, htail⟩ := hmembers h List.mem_cons_self
    have hhead := howned h List.mem_cons_self
    rw [List.length_cons, flush_succ s q st peer n l.length h l hl]
    have hframe := handBack_frame (s.setQueue q l) h st peer n
    have hqueue : ∀ r, ((s.setQueue q l).handBack h st peer n).queue r =
        (if r = q then l else s.queue r) ++ (if r = rq then [h] else []) := fun r => by
      rw [handBack_queue, State.desc_setQueue_other, hrq, State.queue_setQueue, if_eq_comm, if_eq_comm q]
      split
      · rfl
      · exact (List.append_nil _).symm
    have hdesc : ∀ e, ((s.setQueue q l).handBack h st peer n).desc e =
        if e = h then { s.desc h with status := st, peer := peer, channel := n, owner := .queued rq } else s.desc e := fun e => by
      rw [handBack_desc, State.desc_setQueue_other, State.desc_setQueue_other, hrq]
      split
      · rfl
      · split
        · next hmem => rw [← htail e hmem]
        · rfl
    generalize (s.setQueue q l).handBack h st peer n = t at hframe hqueue hdesc ⊢
    have hother : ∀ e ∈ l, t.desc e = s.desc e := fun e he => by
      have hne : e ≠ h := fun heq => hnew (heq ▸ he)
      rw [hdesc, if_neg hne]
    have hnext : ∀ e, (t.desc e).next = (s.desc e).next := fun e => by
      rw [hdesc]
      split
      · next heq => rw [heq]
      · rfl
    obtain ⟨ih1, ih2, ih3⟩ := ih (s := t) (by rw [hqueue, if_pos rfl, if_neg (Ne.symm hq), List.append_nil]) hnodup
      (fun e he => by rw [hother e he]; exact howned e (List.mem_cons_of_mem h he)) fun e he => by
        obtain ⟨hrq', htail'⟩ := hmembers e (List.mem_cons_of_mem h he)
        rw [hother e he, chain_congr t hnext e]
        refine ⟨hrq', fun d hd => ?_⟩
        have hlinked := htail' d hd
        have hne : d ≠ h := fun heq => by rw [heq, hhead] at hlinked; cases hlinked
        rw [hdesc, if_neg hne]
        exact hlinked
    refine ⟨?_, fun r => ?_, fun e => ?_⟩
    · rw [ih1, hframe]
      rfl
    · rw [ih2, hqueue]
      by_cases hr : r = q
      · subst hr
        simp [Ne.symm hq]
      · by_cases hrq' : r = rq
        · simp [hrq', hq]
        · simp [hr, hrq']
    · rw [ih3]
      by_cases he : e = h
      · subst he
        rw [if_neg hnew, hdesc, if_pos rfl, if_pos List.mem_cons_self]
      · rw [hdesc, if_neg he]
        simp only [List.mem_cons, he, false_or]

/-- Settles O18: without a message in hand the teardown is the flush of the submit queue (`flush_spec`) and the push of its
marker (`pushMarker_spec`). -/
theorem teardownFlushesSubmitQueue : Obligations.TeardownFlushesSubmitQueue := by
  intro n i df s hn hs hst hd
  have hexec := exec_teardownTx hn hs hst (by rw [hd]; nofun)
  refine ⟨?refused, fun hactive hout => ?deferred, ?flushed⟩
  case refused =>
    rintro (hstate | hstate)
    · rw [hexec, hstate]
      rfl
    · rw [hexec, hstate]
      rfl
  case deferred =>
    rw [hexec, hactive]
    dsimp only
    rw [if_pos hout]
    refine ⟨_, rfl, rfl, fun m => ?_⟩
    rw [State.txc_answering_other, State.txc_setTx, if_eq_comm]
  case flushed =>
    intro rq mk rest hstate hmsg hrqSubmit hrqPool hrqNotice hsubmitPool hsubmitNotice hnodup howned hmembers hpool hnext hmk _
    have hdone : exec (.teardownTx n) s = .next ((s.completeTeardown i).answering .done []) := by
      obtain hstate | hstate := hstate
      · rw [hexec, hstate]
      · rw [hexec, hstate]
    rw [hdone, completeTeardown_eq hd, failMessage_none s i .cancelled hmsg, hmsg]
    obtain ⟨hframe, hqueue, hdesc⟩ := flush_spec hrqSubmit .cancelled df.station i rfl hnodup
      (fun e he => by simpa using List.all_eq_true.mp howned e he) fun e he => by
        obtain ⟨hrq, hlinked⟩ := hmembers e he
        exact ⟨hrq, fun d hd' => by simpa using List.all_eq_true.mp hlinked d hd'⟩
    generalize s.flush df.submit .cancelled df.station i (s.queue df.submit).length = u at hframe hqueue hdesc ⊢
    have hcfg : u.cfg = s.cfg := by rw [hframe]
    have hmarkers : u.queue u.cfg.markerPool = mk :: rest := by
      rw [hcfg, hqueue, if_neg (Ne.symm hsubmitPool), hpool, if_neg (Ne.symm hrqPool), List.append_nil]
    have hmkSame : u.desc mk = s.desc mk := by rw [hdesc, if_neg hmk]
    obtain ⟨hpush, hpushQueue, hpushDesc⟩ := pushMarker_spec hmarkers df.notice df.station i
      ((if (none : Option DescId).isSome then 1 else 0) + (s.queue df.submit).length)
    generalize u.pushMarker df.notice df.station i _ = v at hpush hpushQueue hpushDesc ⊢
    refine ⟨_, rfl, ?_, fun m => ?_, fun q => ?_, fun e => ?_⟩
    · rw [hpush, hframe]
      rfl
    · have htxc : v.txc m = s.txc m := by rw [hpush, hframe]; rfl
      rw [State.txc_answering_other, State.txc_setTx, if_eq_comm, htxc, ← hd]
      rfl
    · rw [State.queue_answering_other, State.queue_setTx_other, hpushQueue, hcfg, hmkSame, hnext, hqueue]
      by_cases hq : q = s.cfg.markerPool
      · subst hq
        simp [Ne.symm hsubmitPool, Ne.symm hrqPool]
      · simp only [if_neg hq]
    · rw [State.desc_answering_other, State.desc_setTx_other, hpushDesc, hmkSame, hnext, hdesc]
      by_cases he : e = mk
      · rw [if_pos he, if_pos he]
        simp [markerDesc]
      · rw [if_neg he, if_neg he]
        simp

/-! ## The limits of sending and of absence (R95, R98, R103) -/

theorem countUp_eq (k : Nat) : countUp k = min (k + 1) 65535 := by
  change (if k < 65535 then k + 1 else 65535) = _
  by_cases hk : k < 65535
  · rw [if_pos hk]
    omega
  · rw [if_neg hk]
    omega

theorem absenceExpires_waiting {n : ChanId} {df : TxDef} {h : DescId} {rest : List DescId} (hmsg : (s.txc n).msg = none)
    (hqueue : s.queue df.submit = h :: rest) :
    s.absenceExpires n df =
      ((s.setQueue df.submit rest).handBack h .absent df.station n).setTx n { s.txc n with absence := 0 } := by
  have htxc : ((s.setQueue df.submit rest).handBack h .absent df.station n).txc n = s.txc n := by
    rw [handBack_frame]
    rfl
  unfold State.absenceExpires State.handBackOldest
  rw [hmsg, hqueue]
  exact congrArg (fun c : TxChan => State.setTx _ n { c with absence := 0 }) htxc

theorem absenceExpires_inHand {n : ChanId} {df : TxDef} {h : DescId} (hd : (s.txc n).defn = some df)
    (hstate : (s.txc n).state ≠ .tearing) (hmsg : (s.txc n).msg = some h) :
    s.absenceExpires n df = (s.handBack h .absent df.station n).setTx n
      { s.txc n with state := .idle, msg := none, cur := none, attempts := 0, laters := 0, absence := 0, doubt := false,
                     tally := if (s.txc n).doubt then (s.txc n).tally + 1 else (s.txc n).tally } := by
  have hended := failMessage_eq s n .absent df h hd hmsg
  rw [TxChan.ended_idle (by exact hstate) (by decide)] at hended
  unfold State.absenceExpires
  dsimp only
  rw [hmsg, Option.isSome_some, if_pos rfl, hended, setTx_setTx, setTx_txc_self]

section
variable {n : ChanId} {df : TxDef} {h : DescId}

/-- TXn has counted to the limit: its message in hand fails with ABSENT, or its oldest entry is handed back (R103). -/
theorem advanceAbsence_limit (hd : (s.txc n).defn = some df) (hcounts : countsAbsent s n = true)
    (habsence : (s.txc n).absence = 3) :
    s.advanceAbsence n = (s.setTx n { s.txc n with absence := 4 }).absenceExpires n df := by
  have hcount : s.countsAbsence n df = true := by
    rw [countsAbsent, hd] at hcounts
    exact hcounts
  unfold State.advanceAbsence
  rw [hd]
  dsimp only
  rw [if_pos hcount, setTx_txc_self, habsence]
  exact if_pos (show Config.absenceLimit ≤ 4 by decide)

theorem advanceAbsence_waiting {rest : List DescId} (hd : (s.txc n).defn = some df) (hcounts : countsAbsent s n = true)
    (habsence : (s.txc n).absence = 3) (hmsg : (s.txc n).msg = none) (hqueue : s.queue df.submit = h :: rest) :
    s.advanceAbsence n =
      ((s.setQueue df.submit rest).handBack h .absent df.station n).setTx n { s.txc n with absence := 0 } := by
  rw [advanceAbsence_limit hd hcounts habsence,
    absenceExpires_waiting (s := s.setTx n { s.txc n with absence := 4 }) (by rw [setTx_txc_self]; exact hmsg) hqueue,
    setTx_txc_self]
  change (((s.setQueue df.submit rest).setTx n _).handBack h .absent df.station n).setTx n _ = _
  rw [handBack_setTx, setTx_setTx]

/-- The context once the message in hand has failed with ABSENT (R99, R103). -/
def TxChan.absentFailed (c : TxChan) : TxChan :=
  { c with state := .idle, msg := none, cur := none, attempts := 0, laters := 0, absence := 0, doubt := false,
           tally := if c.doubt then c.tally + 1 else c.tally }

theorem advanceAbsence_inHand (hd : (s.txc n).defn = some df) (hcounts : countsAbsent s n = true)
    (habsence : (s.txc n).absence = 3) (hmsg : (s.txc n).msg = some h) :
    s.advanceAbsence n = (s.handBack h .absent df.station n).setTx n (s.txc n).absentFailed := by
  have hstate : (s.txc n).state ≠ .tearing := fun htearing => by
    simp [countsAbsent, hd, htearing] at hcounts
  rw [advanceAbsence_limit hd hcounts habsence,
    absenceExpires_inHand (by rw [setTx_txc_self]; exact hd) (by rw [setTx_txc_self]; exact hstate)
      (by rw [setTx_txc_self]; exact hmsg), setTx_txc_self, handBack_setTx, setTx_setTx]
  rfl

/-- ABSENCE_COUNT_LIMIT is the step of the own turn start at that channel (R103). -/
theorem exec_absenceCountLimit (honline : s.station = .online) (hquiet : s.turn.quiet = 0) (hd : (s.txc n).defn = some df)
    (hcounts : countsAbsent s n = true) (habsence : (s.txc n).absence = 3) :
    exec (.absenceCountLimit n) s = .next (s.advanceAbsence n) := by
  have hcount : s.countsAbsence n df = true := by
    rw [countsAbsent, hd] at hcounts
    exact hcounts
  exact congrArg Host.Outcome.next (if_pos (by
    simp [State.absenceDue, hd, honline, hquiet, hcount, habsence, Config.absenceLimit]))

end

/-- Settles O44: at the limit the channel's message fails with ABSENT, or its oldest entry is handed back; either is one
hand-back and one context (`handBack_setTx_spec`). -/
theorem absenceLimitReturnsMessage : Obligations.AbsenceLimitReturnsMessage := by
  intro s n df h ms honline hquiet hd habsence habsent hchain handed
  refine ⟨fun rest hidle hmsg hqueue => ?waiting, fun hactive hmsg => ?inHand⟩
  case waiting =>
    have hcounts : countsAbsent s n = true := by simp [countsAbsent, hd, hidle, habsent, hqueue]
    rw [exec_absenceCountLimit honline hquiet hd hcounts habsence, advanceAbsence_waiting hd hcounts habsence hmsg hqueue]
    have hchain' : isChain (s.setQueue df.submit rest) (h :: ms) = true :=
      isChain_of_descs (s := s) rfl hchain
    obtain ⟨hframe, htxc, hq, hdesc⟩ := handBack_setTx_spec hchain' .absent df.station n n { s.txc n with absence := 0 }
    refine ⟨_, rfl, ?_, htxc, fun q => ?_, fun e => (hdesc e).trans (messageDesc_cons s _ _ _ _ _ e)⟩
    · rw [hframe]
      rfl
    · rw [hq, State.queue_setQueue, if_eq_comm]
      rfl
  case inHand =>
    have hcounts : countsAbsent s n = true := by simp [countsAbsent, hd, hactive, habsent, hmsg]
    rw [exec_absenceCountLimit honline hquiet hd hcounts habsence, advanceAbsence_inHand hd hcounts habsence hmsg]
    obtain ⟨hframe, htxc, hq, hdesc⟩ := handBack_setTx_spec hchain .absent df.station n n (s.txc n).absentFailed
    exact ⟨_, rfl, hframe, htxc, hq, fun e => (hdesc e).trans (messageDesc_cons s _ _ _ _ _ e)⟩

/-- The channel's context once a sending limit has failed its message. -/
def TxChan.limited (c : TxChan) (tally : Tally) : TxChan :=
  { c with state := .idle, msg := none, cur := none, attempts := 0, laters := 0, doubt := false, outstanding := false,
           tally := tally }

theorem attemptsLimit_eq {n : ChanId} {df : TxDef} {h : DescId} (hd : (s.txc n).defn = some df)
    (hactive : (s.txc n).state = .active) (hmsg : (s.txc n).msg = some h) (hlimit : 8 ≤ (s.txc n).attempts) :
    (s.applyOutcome n none).finishTearing n =
      ((s.count .unanswered).handBack h .noAnswer df.station n).setTx n ((s.txc n).limited ((s.txc n).tally + 1)) := by
  have hfail := failMessage_eq ((s.count .unanswered).setTx n { s.txc n with doubt := true }) n .noAnswer df h
    (by rw [State.txc_setTx, if_pos rfl]; exact hd) (by rw [State.txc_setTx, if_pos rfl]; exact hmsg)
  have houtcome : s.applyOutcome n none =
      ((s.count .unanswered).handBack h .noAnswer df.station n).setTx n ((s.txc n).limited ((s.txc n).tally + 1)) := by
    unfold State.applyOutcome State.outcomeEffect State.outcomeNone
    simp only [State.txc_setTx, State.txc_count_other, if_true, Config.attemptsLimit, hlimit, hfail, handBack_setTx, setTx_setTx]
    rw [TxChan.ended_idle (by rw [hactive]; decide) (by decide)]
    rfl
  rw [houtcome, State.finishTearing, setTx_txc_self, if_neg (by change TxState.idle ≠ _; decide)]

theorem latersLimit_eq {n : ChanId} {df : TxDef} {h : DescId} (hd : (s.txc n).defn = some df)
    (hactive : (s.txc n).state = .active) (hmsg : (s.txc n).msg = some h) (hlimit : 64 ≤ (s.txc n).laters + 1) :
    (s.applyOutcome n (some .later)).finishTearing n =
      (s.handBack h .peerBusy df.station n).setTx n
        ((s.txc n).limited (if (s.txc n).doubt then (s.txc n).tally + 1 else (s.txc n).tally)) := by
  have hfail := failMessage_eq (s.setTx n { s.txc n with laters := (s.txc n).laters + 1, attempts := 0 }) n .peerBusy df h
    (by rw [State.txc_setTx, if_pos rfl]; exact hd) (by rw [State.txc_setTx, if_pos rfl]; exact hmsg)
  have houtcome : s.applyOutcome n (some .later) =
      (s.handBack h .peerBusy df.station n).setTx n
        ((s.txc n).limited (if (s.txc n).doubt then (s.txc n).tally + 1 else (s.txc n).tally)) := by
    unfold State.applyOutcome State.outcomeEffect State.outcomeLater
    simp only [State.txc_setTx, if_true, Config.latersLimit, hlimit, hfail, handBack_setTx, setTx_setTx]
    rw [TxChan.ended_idle (by rw [hactive]; decide) (by decide)]
    rfl
  rw [houtcome, State.finishTearing, setTx_txc_self, if_neg (by change TxState.idle ≠ _; decide)]

/-- Settles O45: either limit is one hand-back and one context (`attemptsLimit_eq`, `latersLimit_eq`). -/
theorem sendingLimitsFailMessage : Obligations.SendingLimitsFailMessage := by
  intro s n df h ms hd hactive hout hmsg hchain c st tally counters hc
  obtain ⟨rfl, hattempts, rfl, rfl, rfl⟩ | ⟨rfl, hlaters, rfl, rfl, rfl⟩ := hc
  · have hdue : s.attemptsDue n = true := by simp [State.attemptsDue, hout, hmsg, hattempts, Config.attemptsLimit]
    have hexec : exec (.attemptsLimit n) s = .next _ := congrArg Host.Outcome.next ((if_pos hdue).trans
      (attemptsLimit_eq hd hactive hmsg hattempts.ge))
    rw [hexec]
    have hchain' : isChain (s.count .unanswered) (h :: ms) = true := isChain_of_descs (s := s) rfl hchain
    obtain ⟨hframe, htxc, hq, hdesc⟩ := handBack_setTx_spec hchain' .noAnswer df.station n n
      ((s.txc n).limited ((s.txc n).tally + 1))
    refine ⟨_, rfl, ?_, htxc, hq, fun e => (hdesc e).trans (messageDesc_cons s _ _ _ _ _ e)⟩
    rw [hframe, ← countUp_eq]
    rfl
  · have hdue : s.latersDue n = true := by simp [State.latersDue, hout, hmsg, hlaters, Config.latersLimit]
    have hexec : exec (.latersLimit n) s = .next _ := congrArg Host.Outcome.next ((if_pos hdue).trans
      (latersLimit_eq hd hactive hmsg (by rw [hlaters])))
    rw [hexec]
    obtain ⟨hframe, htxc, hq, hdesc⟩ := handBack_setTx_spec hchain .peerBusy df.station n n
      ((s.txc n).limited (if (s.txc n).doubt then (s.txc n).tally + 1 else (s.txc n).tally))
    exact ⟨_, rfl, hframe, htxc, hq, fun e => (hdesc e).trans (messageDesc_cons s _ _ _ _ _ e)⟩

/-! ## The second miss (R81) -/

/-- Settles O46: the second miss is the change to ABSENT (`becomeAbsent_ending`). -/
theorem secondMissMakesAbsent : Obligations.SecondMissMakesAbsent := by
  intro s a msgs parts honline hcounter hother hpresent hmisses hends
  have hnot : s.isAbsent a = false := by simpa [State.isAbsent] using hpresent
  have hdue : s.absentDue a = true := by
    simp [State.absentDue, State.keepsTurns, honline, hcounter, hother, hnot, hmisses, Config.missLimit]
  have hmiss : s.missTurn a = s.becomeAbsent a := by
    simp [State.missTurn, hother, hnot, hmisses, Config.missLimit]
  have hexec : exec (.rosterAbsent a) s = .next (s.becomeAbsent a) :=
    congrArg Host.Outcome.next ((if_pos hdue).trans hmiss)
  obtain ⟨hframe, htally, htxc, hrxc, hqueue, hdesc⟩ := becomeAbsent_ending s a msgs parts hends
  rw [hexec]
  generalize s.becomeAbsent a = t at *
  refine ⟨_, rfl, ?_, fun b => ?_, htally, htxc, hrxc, hqueue, hdesc⟩
  · rw [hframe]
  · have hroster : t.rosterOf b = (s.setRoster a { state := .absent, misses := 2 }).rosterOf b := by
      rw [hframe]
      rfl
    rw [hroster, State.rosterOf_setRoster, if_eq_comm]

end Sys2Proof.Machine
end

section
/-! PROOFS. Turn ends, exits from ONLINE and own frames: what each comes down to where the conditions of R65 to R69 are known
(R52, R57, R60, R61, R65, R68, R69, R76, R78, R129, R131). -/

namespace Sys2Proof.Machine

open Sys2Proof.Safety

variable {s t : State}

/-! ## The outstanding segment at a turn end (R65, R93) -/

theorem State.outstandingChan_eq_none (h : nothingOutstanding s = true) : s.outstandingChan = none :=
  List.find?_eq_none.mpr fun n hn => by simpa using List.all_eq_true.mp h n hn

theorem onlyOutstanding_iff {n : ChanId} : onlyOutstanding s n = true ↔ ∀ m, (s.txc m).outstanding = decide (m = n) := by
  simp only [onlyOutstanding, allChans_all_iff, beq_iff_eq]

theorem State.outstandingChan_eq_some {n : ChanId} (h : onlyOutstanding s n = true) : s.outstandingChan = some n := by
  have hout := onlyOutstanding_iff.mp h
  cases hfind : s.outstandingChan with
  | none => exact absurd ((hout n).trans (decide_eq_true rfl)) (outstandingChan_none hfind n)
  | some m =>
    have hm : (s.txc m).outstanding = true := List.find?_some (p := fun k => (s.txc k).outstanding) hfind
    rw [hout, decide_eq_true_eq] at hm
    rw [hm]

theorem ownTurnEnds_nothing (h : nothingOutstanding s = true) (answer : Option Frame) : s.ownTurnEnds answer = s := by
  unfold State.ownTurnEnds
  rw [State.outstandingChan_eq_none h]

theorem ownTurnEnds_only {n : ChanId} (h : onlyOutstanding s n = true) (answer : Option Frame) :
    s.ownTurnEnds answer = (s.applyOutcome n (s.replyFor n answer)).finishTearing n := by
  unfold State.ownTurnEnds
  rw [State.outstandingChan_eq_some h]

/-! ## What ends is read from the channels and the descriptors alone -/

theorem ending_congr {p : TxChan → Bool} {r : RxChan → Bool} {msgs parts : ChanId → List DescId} (htx : t.tx = s.tx)
    (hrx : t.rx = s.rx) (hdescs : t.descs = s.descs) : ending t p r msgs parts = ending s p r msgs parts := by
  have htxc : ∀ n, t.txc n = s.txc n := fun n => congrArg (look · n) htx
  have hrxc : ∀ n, t.rxc n = s.rxc n := fun n => congrArg (look · n) hrx
  have hdesc : ∀ e, t.desc e = s.desc e := fun e => congrArg (look · e) hdescs
  have hmsg : ∀ n l, messageAt t p n l = messageAt s p n l := fun n _ => messageAt_congr (htxc n) fun e _ => hdesc e
  have hpart : ∀ n l, partialAt t r n l = partialAt s r n l := fun n _ => partialAt_congr (hrxc n) fun e _ => hdesc e
  simp only [ending, hmsg, hpart]

theorem ending_moved {p : TxChan → Bool} {r : RxChan → Bool} {msgs parts : ChanId → List DescId}
    (h : ending s p r msgs parts = true) (htx : t.tx = s.tx) (hrx : t.rx = s.rx) (hdescs : t.descs = s.descs) :
    ending t p r msgs parts = true := (ending_congr htx hrx hdescs).trans h

/-! ## The turn end at the turn controller and the receive engine (R60, R61, R65, R68, R129) -/

theorem turnPasses_updates (s : State) :
    Updates (· = .rx) { s with turn := turnAfter s.turn } s.turnPasses :=
  .countPatience (P := (· = .rx)) (by rfl) (.refl _) _

theorem turnPasses_turn (s : State) : s.turnPasses.turn = turnAfter s.turn := (turnPasses_updates s).turn_eq (by decide)

theorem turnPasses_station (s : State) : s.turnPasses.station = s.station := (turnPasses_updates s).station_eq (by decide)

theorem turnPasses_ownAddr (s : State) : s.turnPasses.ownAddr = s.ownAddr := (turnPasses_updates s).ownAddr_eq

theorem turnPasses_lasts (h : patienceLasts s s.turn.counter = true) :
    s.turnPasses = { s with turn := turnAfter s.turn, rx := s.turnPasses.rx }
    ∧ ∀ n, s.turnPasses.rxc n = afterTurnOf s.turn.counter (s.rxc n) :=
  countPatience_lasts { s with turn := turnAfter s.turn } s.turn.counter h

theorem turnPasses_counted {parts : ChanId → List DescId}
    (h : ending s (fun _ => false) (patienceOut s.turn.counter) (fun _ => []) parts = true) :
    TurnCounted s.turn.counter parts { s with turn := turnAfter s.turn } s.turnPasses :=
  countPatience_ending { s with turn := turnAfter s.turn } s.turn.counter parts (ending_moved h rfl rfl rfl)

theorem afterTurnOf_other {a : Station} {c : RxChan} (h : c.busyFrom a = false) : afterTurnOf a c = c :=
  if_neg (by simp [h])

theorem nothingFrom_iff {a : Station} : nothingFrom s a = true ↔ ∀ n, (s.rxc n).busyFrom a = false := by
  simp only [nothingFrom, allChans_all_iff, Bool.not_eq_true']

theorem patienceLasts_of_nothingFrom {a : Station} (h : nothingFrom s a = true) : patienceLasts s a = true := by
  rw [patienceLasts, allChans_all_iff]
  intro n
  rw [nothingFrom_iff.mp h n]
  rfl

/-- The turn of a station that is the source of nothing counts for no channel (R129). -/
theorem turnPasses_nothingFrom (h : nothingFrom s s.turn.counter = true) :
    s.turnPasses = { s with turn := turnAfter s.turn } := by
  obtain ⟨hframe, hrxc⟩ := turnPasses_lasts (patienceLasts_of_nothingFrom h)
  have hrx : s.turnPasses.rx = s.rx := table_ext fun n =>
    (hrxc n).trans (afterTurnOf_other (nothingFrom_iff.mp h n))
  rw [hframe, hrx]

/-- What a turn end does to the receive channels does not look at the turn controller. -/
theorem turnCounted_withTurn {a : Station} {parts : ChanId → List DescId} (h : TurnCounted a parts s t) (c : TurnControl) :
    TurnCounted a parts { s with turn := c } { t with turn := c } := by
  obtain ⟨hframe, hrxc, hqueue, hdesc⟩ := h
  exact ⟨by rw [hframe]; rfl, hrxc, hqueue, hdesc⟩

/-! ## Turn ends (R65, R67, R77) -/

/-- A turn end of another station at the transmit engine does nothing; a turn not silent adds no miss (R65). -/
theorem endTurn_other {way : TurnWay} (hown : s.turn.counter ≠ s.ownAddr) (hway : way ≠ .silent) :
    s.endTurn way = s.turnPasses := by
  unfold State.endTurn
  dsimp only
  rw [if_neg hway, State.tellTransmit, turnPasses_ownAddr, if_neg hown]

theorem endTurn_silent_other (hown : s.turn.counter ≠ s.ownAddr) :
    s.endTurn .silent = s.turnPasses.missTurn s.turn.counter := by
  unfold State.endTurn
  dsimp only
  rw [if_pos rfl, State.tellTransmit, turnPasses_ownAddr, if_neg hown]

theorem missTurn_own (s : State) : s.missTurn s.ownAddr = s := if_pos (.inl rfl)

/-- The end of the own turn is for the transmit engine, and no miss for the own address (R65, R81). -/
theorem endTurn_own {way : TurnWay} (hown : s.turn.counter = s.ownAddr) :
    s.endTurn way = s.turnPasses.ownTurnEnds way.answer := by
  have haddr : (s.turnPasses.ownTurnEnds way.answer).ownAddr = s.turn.counter := by
    rw [((engineUpdates_kept s.turnPasses).ownTurnEnds (Updates.refl _) way.answer).ownAddr_eq, turnPasses_ownAddr, hown]
  unfold State.endTurn
  dsimp only
  rw [State.tellTransmit, turnPasses_ownAddr, if_pos hown, ← haddr, missTurn_own, ite_self]

theorem endTurn_updates (s : State) (way : TurnWay) : EngineUpdates { s with turn := turnAfter s.turn } (s.endTurn way) := by
  have htold := (engineUpdates_kept _).tellTransmit
    ((engineUpdates_kept { s with turn := turnAfter s.turn }).countPatience (Updates.refl _) s.turn.counter)
    s.turn.counter way.answer
  exact .ite (fun _ => (engineUpdates_kept _).missTurn htold _) fun _ => htold

theorem endTurn_turn (s : State) (way : TurnWay) : (s.endTurn way).turn = turnAfter s.turn := (endTurn_updates s way).turn_eq

theorem endTurn_station (s : State) (way : TurnWay) : (s.endTurn way).station = s.station :=
  (endTurn_updates s way).station_eq

theorem endTurn_ownAddr (s : State) (way : TurnWay) : (s.endTurn way).ownAddr = s.ownAddr :=
  (endTurn_updates s way).ownAddr_eq

theorem markOwnTurn_not (h : s.atOwnTurn = false) : s.markOwnTurn = s := if_neg (by simp [h])

theorem startOwnTurn_not (h : s.atOwnTurn = false) : s.startOwnTurn = s := by
  rw [State.startOwnTurn, markOwnTurn_not h, if_neg (by simp [h])]

theorem atOwnTurn_of_next (hnext : s.turn.counter + 1 ≠ s.ownAddr) (way : TurnWay) : (s.endTurn way).atOwnTurn = false := by
  rw [Bool.eq_false_iff, ne_eq, State.atOwnTurn_iff, endTurn_turn, endTurn_ownAddr]
  exact fun h => hnext h.2

/-- A turn end in ONLINE that does not reach the own turn is the turn end at the engines and the roster alone. -/
theorem turnEnd_online {way : TurnWay} (hst : s.station = .online) (hnext : s.turn.counter + 1 ≠ s.ownAddr) :
    s.turnEnd way = s.endTurn way := by
  have honline : (s.endTurn way).station ≠ .leaving := by rw [endTurn_station, hst]; decide
  rw [State.turnEnd, startOwnTurn_not (atOwnTurn_of_next hnext way)]
  exact if_neg fun h => honline h.2

theorem next_ne_own (h : s.turn.counter = s.ownAddr) : s.turn.counter + 1 ≠ s.ownAddr := by
  rw [h]
  exact succ_ne_self _

theorem turnEnd_other {way : TurnWay} (hst : s.station = .online) (hown : s.turn.counter ≠ s.ownAddr)
    (hnext : s.turn.counter + 1 ≠ s.ownAddr) (hway : way ≠ .silent) : s.turnEnd way = s.turnPasses := by
  rw [turnEnd_online hst hnext, endTurn_other hown hway]

theorem turnEnd_own {way : TurnWay} (hst : s.station = .online) (hown : s.turn.counter = s.ownAddr)
    (hfrom : nothingFrom s s.ownAddr = true) :
    s.turnEnd way = State.ownTurnEnds { s with turn := turnAfter s.turn } way.answer := by
  rw [turnEnd_online hst (next_ne_own hown), endTurn_own hown, turnPasses_nothingFrom (hown ▸ hfrom)]

/-- The own turn ends with nothing outstanding: at the turn controller alone. -/
theorem turnEnd_own_nothing {way : TurnWay} (hst : s.station = .online) (hown : s.turn.counter = s.ownAddr)
    (hfrom : nothingFrom s s.ownAddr = true) (hout : nothingOutstanding s = true) :
    s.turnEnd way = { s with turn := turnAfter s.turn } := by
  rw [turnEnd_own hst hown hfrom]
  exact ownTurnEnds_nothing (s := { s with turn := turnAfter s.turn }) hout _

/-! ## Exits from ONLINE and entries to OFFLINE (R57, R68, R78, R105, R131) -/

/-- The line interface held and the timers stopped, before the engines take the exit (R57, R68). -/
def State.cutOff (s : State) : State :=
  { s.stopLine with station := .offline, turn := turnOff s.turn }

theorem goOffline_listening (h : s.station = .listening) : s.goOffline = s.cutOff.rxOffline := by
  unfold State.goOffline
  dsimp only
  rw [if_neg (by simp [h])]
  rfl

theorem goOffline_inTurns (h : s.station = .online ∨ s.station = .leaving) : s.goOffline = s.cutOff.interrupt.rxOffline := by
  unfold State.goOffline
  dsimp only
  rw [if_pos h]
  rfl

/-- `t` has gone OFFLINE from `s`, ONLINE or LEAVING: the messages `msgs` have failed and the partials `parts` have gone
back (R99, R105, R131). -/
def WentOffline (msgs parts : ChanId → List DescId) (s t : State) : Prop :=
  t = { s.cutOff with tx := t.tx, rx := t.rx, descs := t.descs, queues := t.queues,
                      events := { s.events with abandon := s.events.abandon || !noneBusy s } }
  ∧ (∀ n, t.txc n = afterExit (s.txc n)) ∧ (∀ n, t.rxc n = afterOffline (s.rxc n))
  ∧ (∀ q, t.queue q = s.queue q ++ endedTo s msgs parts q) ∧ ∀ e, t.desc e = endedDesc s msgs parts e

theorem goOffline_ending {msgs parts : ChanId → List DescId} (hst : s.station = .online ∨ s.station = .leaving)
    (h : ending s TxChan.doubt RxChan.busy msgs parts = true) : WentOffline msgs parts s s.goOffline := by
  rw [goOffline_inTurns hst]
  exact interrupt_rxOffline_ending s.cutOff msgs parts (ending_moved h rfl rfl rfl)

/-! ## LEAVE (R76) -/

/-- Past the port LEAVE looks at the station state, and ONLINE at the outstanding segment. -/
theorem exec_leave {u : State} (hport : s.portSkips = false)
    (hu : s.station = .listening ∧ u = s.goOffline.answering .done []
      ∨ s.station = .online ∧ s.outstandingChan = none ∧ u = s.goOffline.answering .done []
      ∨ s.station = .online ∧ s.outstandingChan ≠ none ∧ u = State.answering { s with station := .leaving } .done []
      ∨ (s.station = .unconfigured ∨ s.station = .offline ∨ s.station = .leaving) ∧ u = s.refuse .wrongState) :
    exec .leave s = .next u := by
  have hst : s.station ≠ .starting := by
    intro hst
    simp [hst] at hu
  refine congrArg Host.Outcome.next ((s.atPort_taken _ hport hst).trans ?_)
  obtain ⟨hst, rfl⟩ | ⟨hst, hout, rfl⟩ | ⟨hst, hout, rfl⟩ | ⟨hst | hst | hst, rfl⟩ := hu
  · rw [hst]
  · rw [hst, hout]
  · obtain ⟨n, hn⟩ := Option.ne_none_iff_exists'.mp hout
    split
    · next hst' => rw [hst] at hst'; cases hst'
    · rw [hn]
    · next hst' => exact absurd hst hst'
  all_goals rw [hst]

/-- Settles O15: LEAVE looks at the station state and, ONLINE, at the outstanding segment; the entry to OFFLINE is that of
`goOffline_ending`. -/
theorem leaveByStationState : Obligations.LeaveByStationState := by
  intro s hport
  refine ⟨fun hst => ?refused, fun n hst hout => ?leaving, fun parts hst hend => ?listening,
    fun msgs parts hst hout hend => ?online⟩
  case refused => exact exec_leave hport (.inr (.inr (.inr ⟨hst, rfl⟩)))
  case leaving =>
    exact exec_leave hport (.inr (.inr (.inl ⟨hst, by rw [State.outstandingChan_eq_some hout]; nofun, rfl⟩)))
  case listening =>
    rw [exec_leave hport (.inl ⟨hst, rfl⟩), goOffline_listening hst]
    obtain ⟨hframe, hrxc, hqueue, hdesc⟩ := rxOffline_ending s.cutOff parts (ending_moved hend rfl rfl rfl)
    generalize s.cutOff.rxOffline = u at *
    exact ⟨_, rfl, by rw [hframe]; rfl, hrxc, hqueue, hdesc⟩
  case online =>
    rw [exec_leave hport (.inr (.inl ⟨hst, State.outstandingChan_eq_none hout, rfl⟩))]
    obtain ⟨hframe, htxc, hrxc, hqueue, hdesc⟩ := goOffline_ending (.inl hst) hend
    generalize s.goOffline = u at *
    exact ⟨_, rfl, by rw [hframe]; rfl, htxc, hrxc, hqueue, hdesc⟩

/-! ## Own frames (R51, R52, R69, R75) -/

theorem exec_ownFrameEnd {f : Frame} (hline : s.line = .sending f) :
    exec .ownFrameEnd s = .next ((s.lowBefore (encodeFrame f)).ownFrameEnds f) := by
  change Host.Outcome.next _ = _
  rw [hline]

/-- Settles O37: an own PASS or REPLY is a turn end that does not reach the own turn, of the own turn with nothing
outstanding or of another station's; an own DATA only starts its window. -/
theorem ownFramesSentAndTreated : Obligations.OwnFramesSentAndTreated := by
  refine ⟨fun s f hrequest => ?start, fun s f hst hline => ⟨fun a hf hcounter hout hfrom => ?pass, fun g hf => ?data,
    fun r hf hcounter hnext hlasts => ?reply⟩⟩
  case start =>
    change Host.Outcome.next _ = _
    rw [hrequest]
    rfl
  case pass =>
    subst hf
    rw [exec_ownFrameEnd hline]
    let u : State := State.count
      { s.lowBefore (encodeFrame (.pass a)) with line := .quiet, turn := { s.turn with collided := 0 } } .passSent
    have hend := turnEnd_own_nothing (s := u) (way := .byPass) hst hcounter hfrom hout
    refine congrArg Host.Outcome.next (hend.trans ?_)
    simp only [u, State.count, Counters.raise, countUp_eq]
    rfl
  case data =>
    subst hf
    rw [exec_ownFrameEnd hline]
    simp only [State.ownFrameEnds, State.ownFrameTreated, State.count, sentCounter, Counters.raise, countUp_eq]
    rfl
  case reply =>
    subst hf
    rw [exec_ownFrameEnd hline]
    let u : State := State.count
      { s.lowBefore (encodeFrame (.reply r)) with line := .quiet, turn := { s.turn with collided := 0 } } .replySent
    have hend := turnEnd_other (s := u) (way := .byAnswer (some (.reply r))) hst hcounter hnext (by simp)
    obtain ⟨hframe, hrxc⟩ := turnPasses_lasts (s := u) hlasts
    refine ⟨_, congrArg Host.Outcome.next hend, ?_, hrxc⟩
    generalize u.turnPasses = v at *
    rw [hframe]
    simp only [u, State.count, Counters.raise, countUp_eq]
    rfl

end Sys2Proof.Machine
end

section
/-! PROOFS. The end of the own turn with a segment outstanding: what each outcome does to the channel's context, and what a
teardown that completes then does to queues and descriptors (R93 to R100, R109, R144 to R148, R153). -/

namespace Sys2Proof.Machine

open Sys2Proof.Safety

variable {s t : State} {n : ChanId} {df : TxDef} {h : DescId}

/-! ## Outcomes that leave the message in hand (R94, R95, R98) -/

/-- The context after TAKEN or SEEN on a segment that is not the last. -/
def TxChan.movedOn (c : TxChan) (e : DescId) : TxChan :=
  { c with tally := c.tally + 1, cur := some e, attempts := 0, laters := 0, doubt := false, outstanding := false }

/-- The context after LATER below the limit. -/
def TxChan.putOff (c : TxChan) : TxChan := { c with laters := c.laters + 1, attempts := 0, outstanding := false }

/-- The context after a sending left unanswered below the limit. -/
def TxChan.leftInDoubt (c : TxChan) : TxChan := { c with doubt := true, outstanding := false }

theorem applyOutcome_taken_next {o : ReplyCode} {d e : DescId} (ho : o = .taken ∨ o = .seen)
    (hcur : (s.txc n).cur = some d) (hnext : (s.desc d).next = some e) :
    s.applyOutcome n (some o) = s.setTx n ((s.txc n).movedOn e) := by
  have hlast : s.atLast n = false := by simp [State.atLast, hcur, hnext]
  have hseg : s.nextSegment n = some e := by simp [State.nextSegment, hcur, hnext]
  have heffect : s.outcomeEffect n (some o) = s.outcomeTaken n := by
    obtain rfl | rfl := ho
    · rfl
    · rfl
  unfold State.applyOutcome
  dsimp only
  rw [heffect, State.outcomeTaken, hlast, if_neg Bool.false_ne_true, setTx_setTx, setTx_txc_self, hseg]
  rfl

theorem applyOutcome_later (hlaters : (s.txc n).laters + 1 < 64) :
    s.applyOutcome n (some .later) = s.setTx n (s.txc n).putOff := by
  have hbelow : ¬ Config.latersLimit ≤ (s.txc n).laters + 1 := Nat.not_le.mpr hlaters
  unfold State.applyOutcome State.outcomeEffect State.outcomeLater
  dsimp only
  rw [setTx_txc_self, if_neg hbelow, setTx_setTx, setTx_txc_self]
  rfl

theorem applyOutcome_unanswered (hattempts : (s.txc n).attempts < 8) :
    s.applyOutcome n none = (s.count .unanswered).setTx n (s.txc n).leftInDoubt := by
  have hbelow : ¬ Config.attemptsLimit ≤ (s.txc n).attempts := Nat.not_le.mpr hattempts
  unfold State.applyOutcome State.outcomeEffect State.outcomeNone
  dsimp only
  rw [setTx_txc_self, if_neg hbelow, setTx_setTx, setTx_txc_self]
  rfl

/-! ## Outcomes that end the message (R94, R96 to R99) -/

/-- The context after an outcome that ends the message with this status, leaving the channel this tally. -/
def TxChan.endedBy (c : TxChan) (st : DescStatus) (tally : Tally) : TxChan :=
  { ({ c with tally := tally } : TxChan).ended st with outstanding := false }

theorem endMessage_eq {st : DescStatus} (hd : (s.txc n).defn = some df) (hm : (s.txc n).msg = some h) :
    s.endMessage n st = (s.handBack h st df.station n).setTx n ((s.txc n).ended st) := by
  unfold State.endMessage
  rw [hd, hm]

section
variable (hd : (s.txc n).defn = some df) (hm : (s.txc n).msg = some h)
include hd hm

theorem applyOutcome_taken_last {o : ReplyCode} {d : DescId} (ho : o = .taken ∨ o = .seen)
    (hcur : (s.txc n).cur = some d) (hnext : (s.desc d).next = none) :
    s.applyOutcome n (some o) =
      (s.handBack h .delivered df.station n).setTx n ((s.txc n).endedBy .delivered ((s.txc n).tally + 1)) := by
  have hlast : s.atLast n = true := by simp [State.atLast, hcur, hnext]
  have heffect : s.outcomeEffect n (some o) = s.outcomeTaken n := by
    obtain rfl | rfl := ho
    · rfl
    · rfl
  have hend := endMessage_eq (s := s.advanceTally n) (st := .delivered) (df := df) (h := h)
    (by rw [State.advanceTally, setTx_txc_self]; exact hd) (by rw [State.advanceTally, setTx_txc_self]; exact hm)
  unfold State.applyOutcome
  dsimp only
  rw [heffect, State.outcomeTaken, if_pos hlast, hend, setTx_setTx, setTx_txc_self, State.advanceTally, handBack_setTx,
    setTx_setTx, setTx_txc_self]
  rfl

theorem applyOutcome_failed {o : ReplyCode} {st : DescStatus} (ho : o = .closed ∧ st = .closed ∨ o = .lost ∧ st = .lost) :
    s.applyOutcome n (some o) = (s.handBack h st df.station n).setTx n
      ((s.txc n).endedBy st (if (s.txc n).doubt then (s.txc n).tally + 1 else (s.txc n).tally)) := by
  have heffect : s.outcomeEffect n (some o) = s.failMessage n st := by
    obtain ⟨rfl, rfl⟩ | ⟨rfl, rfl⟩ := ho
    · rfl
    · rfl
  unfold State.applyOutcome
  dsimp only
  rw [heffect, failMessage_eq s n st df h hd hm, setTx_setTx, setTx_txc_self]
  rfl

theorem applyOutcome_gaveUp (hattempts : 8 ≤ (s.txc n).attempts) :
    s.applyOutcome n none = ((s.count .unanswered).handBack h .noAnswer df.station n).setTx n
      ((s.txc n).endedBy .noAnswer ((s.txc n).tally + 1)) := by
  have hfail := failMessage_eq ((s.count .unanswered).setTx n { s.txc n with doubt := true }) n .noAnswer df h
    (by rw [setTx_txc_self]; exact hd) (by rw [setTx_txc_self]; exact hm)
  have hlimit : Config.attemptsLimit ≤ (s.txc n).attempts := hattempts
  unfold State.applyOutcome State.outcomeEffect State.outcomeNone
  dsimp only
  rw [setTx_txc_self, if_pos hlimit, hfail, handBack_setTx, setTx_setTx, setTx_setTx, setTx_txc_self, setTx_txc_self]
  rfl

end

/-- The reply that matches the outstanding segment gives its code (R93). -/
theorem replyFor_matching {code : ReplyCode} {tally : Tally} {own : Station} (hd : (s.txc n).defn = some df)
    (hown : own = s.ownAddr) (htally : tally = (s.txc n).tally) :
    s.replyFor n (some (.reply { source := df.station, destination := own, channel := df.channel, tallyEcho := tally,
                                 code := code })) = some code := by
  unfold State.replyFor
  rw [hd]
  exact if_pos ⟨rfl, hown, rfl, htally⟩

/-- Any other frame, or none, is no reply (R93). -/
theorem replyFor_none {v : Option Frame} (hv : ∀ r, v ≠ some (.reply r)) : s.replyFor n v = none := by
  unfold State.replyFor
  split
  · next r => exact absurd rfl (hv r)
  · rfl

theorem finishTearing_not (hstate : (s.txc n).state ≠ .tearing) : s.finishTearing n = s := if_neg hstate

theorem endedBy_state {c : TxChan} {st : DescStatus} {tally : Tally} (hstate : c.state ≠ .tearing) :
    (c.endedBy st tally).state = if st = .closed then .halted else .idle := by
  simp only [TxChan.endedBy, TxChan.ended, stateAfterEnd, if_neg hstate]

/-- The context of a channel whose message has ended, TEARING aside. -/
theorem endedBy_eq {c : TxChan} {st : DescStatus} {tally : Tally} (hstate : c.state ≠ .tearing) :
    c.endedBy st tally =
      { defn := c.defn, state := if st = .closed then .halted else .idle, msg := none, cur := none, tally := tally,
        attempts := 0, laters := 0, absence := if st = .closed then 0 else c.absence, doubt := false,
        outstanding := false } := by
  by_cases hst : st = .closed
  · simp [TxChan.endedBy, TxChan.ended, stateAfterEnd, hstate, hst]
  · simp [TxChan.endedBy, TxChan.ended, stateAfterEnd, hstate, hst]

/-! ## A teardown that completes with nothing waiting (R144 to R148, R153) -/

/-- `t` differs from `s` in a message `h`, `ms` of TXn handed back with `st`, a marker `mk` pushed with `total`, and the
context `c` of TXn. -/
def MarkedBack (n : ChanId) (c : TxChan) (df : TxDef) (st : DescStatus) (total : Nat) (h : DescId) (ms : List DescId)
    (mk : DescId) (rest : List DescId) (s t : State) : Prop :=
  t = { s with tx := t.tx, descs := t.descs, queues := t.queues }
  ∧ (∀ m, t.txc m = if m = n then c else s.txc m)
  ∧ (∀ q, t.queue q = (if q = s.cfg.markerPool then rest else s.queue q)
      ++ (if q = (s.desc h).returnQueue then [h] else []) ++ (if q = df.notice then [mk] else []))
  ∧ ∀ e, t.desc e =
      if e = mk then markerDesc (s.desc mk) df.station n total df.notice else messageDesc s df.station n st (h :: ms) e

/-- Which context TXn had before does not matter. -/
theorem MarkedBack.of_setTx {c c' : TxChan} {st : DescStatus} {total : Nat} {ms rest : List DescId} {mk : DescId}
    (hback : MarkedBack n c df st total h ms mk rest (s.setTx n c') t) : MarkedBack n c df st total h ms mk rest s t := by
  obtain ⟨hframe, htxc, hqueue, hdesc⟩ := hback
  refine ⟨hframe, fun m => (htxc m).trans ?_, hqueue, hdesc⟩
  by_cases hm : m = n
  · rw [if_pos hm, if_pos hm]
  · rw [if_neg hm, if_neg hm, setTx_txc_other _ _ hm]

section
variable {ms : List DescId} {mk : DescId} {rest : List DescId} (hchain : isChain s (h :: ms) = true)
  (hpool : s.queue s.cfg.markerPool = mk :: rest) (hnext : (s.desc mk).next = none) (hmk : mk ∉ h :: ms)
include hchain hpool hnext hmk

theorem handBack_pushMarker_spec (st : DescStatus) (total : Nat) (c c' : TxChan) :
    MarkedBack n c' df st total h ms mk rest s
      ((((s.handBack h st df.station n).setTx n c).pushMarker df.notice df.station n total).setTx n c') := by
  obtain ⟨hframe, htxc, hqueue, hdesc⟩ := handBack_setTx_spec hchain st df.station n n c
  generalize (s.handBack h st df.station n).setTx n c = u at *
  have hcfg : u.cfg = s.cfg := by rw [hframe]
  have hmkDesc : u.desc mk = s.desc mk := by
    obtain ⟨hne, hnot⟩ := not_or.mp (List.mem_cons.not.mp hmk)
    rw [hdesc, messageDesc_cons, if_neg hne, if_neg hnot]
  have hmarkers : u.queue u.cfg.markerPool = mk :: (rest ++ if s.cfg.markerPool = (s.desc h).returnQueue then [h] else []) := by
    rw [hcfg, hqueue, hpool, List.cons_append]
  obtain ⟨hpush, hpushQueue, hpushDesc⟩ := pushMarker_spec hmarkers df.notice df.station n total
  generalize u.pushMarker df.notice df.station n total = v at *
  refine ⟨?_, fun m => ?_, fun q => ?_, fun e => ?_⟩
  · rw [hpush, hframe]
    rfl
  · have hv : v.txc m = u.txc m := by rw [hpush]; rfl
    rw [State.txc_setTx, hv, htxc, if_eq_comm]
    by_cases hm : m = n
    · rw [if_pos hm, if_pos hm]
    · rw [if_neg hm, if_neg hm, if_neg hm]
  · rw [State.queue_setTx_other, hpushQueue, hcfg, hmkDesc, hnext, hqueue]
    by_cases hq : q = s.cfg.markerPool
    · rw [if_pos hq, if_pos hq, hq]
      exact congrArg (· ++ _) (List.append_nil _)
    · rw [if_neg hq, if_neg hq]
  · rw [State.desc_setTx_other, hpushDesc, hmkDesc, hnext, hdesc]
    by_cases he : e = mk
    · rw [if_pos he, if_pos he]
    · rw [if_neg he, if_neg he, if_neg (by simp)]

/-- The teardown that follows an outcome which left the message in hand cancels it (R145, R147, R148). -/
theorem finishTearing_inHand {c : TxChan} (hc : s.txc n = c) (hd : c.defn = some df) (hstate : c.state = .tearing)
    (hm : c.msg = some h) (hsubmit : s.queue df.submit = []) (hrq : (s.desc h).returnQueue ≠ df.submit) :
    MarkedBack n (tornDown c (if c.doubt then c.tally + 1 else c.tally)) df .cancelled 1 h ms mk rest s
      (s.finishTearing n) := by
  subst hc
  have hfail := failMessage_eq s n .cancelled df h hd hm
  have hwait : (s.failMessage n .cancelled).queue df.submit = [] := by
    rw [hfail, State.queue_setTx_other, handBack_queue, hsubmit, if_neg hrq]
  rw [State.finishTearing, if_pos hstate, completeTeardown_nothingWaits hd hsubmit hwait, hfail, hm, setTx_txc_self]
  exact handBack_pushMarker_spec hchain hpool hnext hmk .cancelled 1 _ _

/-- The teardown that follows an outcome which ended the message pushes a marker of total 0 (R147, R148). -/
theorem finishTearing_ended {c : TxChan} {st : DescStatus} {tally : Tally} (hd : c.defn = some df)
    (hstate : c.state = .tearing) (hsubmit : s.queue df.submit = []) (hrq : (s.desc h).returnQueue ≠ df.submit) :
    MarkedBack n (tornDown c tally) df st 0 h ms mk rest s
      (((s.handBack h st df.station n).setTx n (c.endedBy st tally)).finishTearing n) := by
  have htearing : (c.endedBy st tally).state = .tearing := if_pos hstate
  have hnone := failMessage_none ((s.handBack h st df.station n).setTx n (c.endedBy st tally)) n .cancelled
    (by rw [setTx_txc_self]; rfl)
  have hempty : ((s.handBack h st df.station n).setTx n (c.endedBy st tally)).queue df.submit = [] := by
    rw [State.queue_setTx_other, handBack_queue, hsubmit, if_neg hrq]
  rw [State.finishTearing, setTx_txc_self, if_pos htearing,
    completeTeardown_nothingWaits (by rw [setTx_txc_self]; exact hd) hempty (by rw [hnone]; exact hempty), hnone,
    setTx_txc_self]
  exact handBack_pushMarker_spec hchain hpool hnext hmk st 0 _ _

end

end Sys2Proof.Machine
end

section
/-! PROOFS. Frames heard and windows that end a turn: FRAME_END and IDLE_FRAME_END by station state and place of the frame, and
the replies to an outstanding segment (R48 to R50, R62 to R65, R93 to R98, R109). -/

namespace Sys2Proof.Machine

open Sys2Proof.Safety

variable {s t : State} {bytes : List Byte}

/-! ## FRAME_END and IDLE_FRAME_END (R47 to R50) -/

/-- The state in which a valid frame is handed to the turn controller: the line is QUIET again (R50). -/
def State.heardEnd (s : State) (bytes : List Byte) : State := { s.lowBefore bytes with line := .quiet }

/-- A frame end at the turn controller and the receive engine, once the line is QUIET and the frame is counted (R50). -/
def State.frameTaken (s : State) (began : Began) (v : Option Frame) : State := (s.frameToTurns began v).frameToEngines v

theorem onlineHearing_iff {b : Began} :
    onlineHearing s b = true ↔ s.station = .online
      ∧ s.line = .receiving { began := b, counted := true, remainder := false } ∧ s.request = none := by
  simp [onlineHearing, and_assoc]

theorem onlineSilent_iff {m : Timer} :
    onlineSilent s m = true ↔ s.station = .online ∧ s.line = .quiet ∧ s.request = none ∧ s.turn.timer = m := by
  simp [onlineSilent, and_assoc]

theorem frameComplete_of_decode {g : Frame} (h : decodeFrame bytes = some g) : frameComplete bytes = true := by
  unfold decodeFrame at h
  split at h
  · next hboth => exact (Bool.and_eq_true _ _ ▸ hboth).1
  · cases h

theorem verdict_eq {began : Began} {g : Frame} (h : decodeFrame bytes = some g)
    (hreply : ∀ r, g = .reply r → began = .window) : verdict began bytes = some g := by
  unfold verdict
  rw [h]
  cases g with
  | pass a => rfl
  | data f => rfl
  | reply r => exact if_pos (hreply r rfl)

theorem exec_frameEnd_complete {k : Heard} (hline : s.line = .receiving k) (hrequest : s.request = none)
    (hcomplete : frameComplete bytes = true) :
    exec (.frameEnd bytes) s = .next ((s.lowBefore bytes).frameEnds k (verdict k.began bytes)) := by
  change Host.Outcome.next _ = _
  rw [hline]
  exact congrArg Host.Outcome.next (if_pos ⟨hcomplete, hrequest⟩)

theorem frameEnds_valid (k : Heard) (g : Frame) :
    s.frameEnds k (some g) = State.frameTaken { s with line := .quiet } k.began (some g) := by
  unfold State.frameEnds
  dsimp only
  rw [if_neg (by simp)]
  rfl

/-- FRAME_END with a valid frame (R47, R49, R50). -/
theorem exec_frameEnd {k : Heard} {g : Frame} (hline : s.line = .receiving k) (hrequest : s.request = none)
    (hdecode : decodeFrame bytes = some g) (hreply : ∀ r, g = .reply r → k.began = .window) :
    exec (.frameEnd bytes) s = .next ((s.heardEnd bytes).frameTaken k.began (some g)) := by
  rw [exec_frameEnd_complete hline hrequest (frameComplete_of_decode hdecode), verdict_eq hdecode hreply, frameEnds_valid]
  rfl

/-- The state in which an invalid frame is handed to the turn controller (R48, R50). -/
def State.invalidEnd (s : State) (counted : Bool) : State :=
  { s with line := .quiet, counters := if counted then { s.counters with invalidHeard := min (s.counters.invalidHeard + 1) 65535 }
                                      else s.counters }

theorem frameEnds_invalid (k : Heard) : s.frameEnds k none = (s.invalidEnd k.counted).frameToTurns k.began none := by
  unfold State.frameEnds State.invalidEnd
  dsimp only [State.frameToEngines]
  by_cases hcounted : k.counted = true
  · rw [if_pos ⟨rfl, hcounted⟩, if_pos hcounted, ← countUp_eq]
    rfl
  · rw [if_neg (fun h => hcounted h.2), if_neg hcounted]

theorem exec_idleFrameEnd {k : Heard} (hline : s.line = .receiving k ∨ s.line = .skipping k) (hrequest : s.request = none) :
    exec .idleFrameEnd s = .next ((s.idleExceeded.invalidEnd k.counted).frameToTurns k.began none) := by
  change Host.Outcome.next _ = _
  rw [if_pos hrequest]
  obtain hline | hline := hline
  · rw [hline]
    exact congrArg Host.Outcome.next (frameEnds_invalid k)
  · rw [hline]
    exact congrArg Host.Outcome.next (frameEnds_invalid k)

theorem frameToTurns_inTurns (hst : s.station = .online ∨ s.station = .leaving) (began : Began) (v : Option Frame) :
    s.frameToTurns began v = s.frameInTurn began v := by
  unfold State.frameToTurns
  obtain hst | hst := hst
  · rw [hst]
  · rw [hst]

theorem frameToTurns_listening {v : Option Frame} (hst : s.station = .listening) (began : Began) (hv : turnHolder v = none) :
    s.frameToTurns began v = s.withTimer .listenWait := by
  unfold State.frameToTurns
  rw [hst, hv]

/-! ## Windows that end without a PASS or DATA (R63, R64) -/

theorem leaveAfter_online {owner : Station} (hst : s.station = .online) : s.leaveAfter owner = s :=
  if_neg fun h => by rw [hst] at h; cases h.2

/-- The window of another station's turn, the own turn not next: the turn ends and the frame's source is heard. -/
theorem frameInWindow_other {v : Option Frame} (hst : s.station = .online) (hown : s.turn.counter ≠ s.ownAddr)
    (hnext : s.turn.counter + 1 ≠ s.ownAddr) (hv : turnHolder v = none) : s.frameInWindow v = s.turnPasses.hearSource v := by
  have hu : EngineUpdates s.turnPasses (s.turnPasses.hearSource v) := (engineUpdates_kept _).hearSource (Updates.refl _) v
  have hnot : s.turnPasses.atOwnTurn = false := by
    rw [← endTurn_other (way := .byWindow) hown (by decide)]
    exact atOwnTurn_of_next hnext _
  unfold State.frameInWindow
  dsimp only
  rw [hv]
  dsimp only
  rw [startOwnTurn_not hnot, State.tellTransmit, hu.ownAddr_eq, turnPasses_ownAddr, if_neg hown]
  exact leaveAfter_online (by rw [hu.station_eq, turnPasses_station, hst])

/-- The window of the own turn: the frame's source is heard, then the transmit engine takes its answer. -/
theorem frameInWindow_own {v : Option Frame} (hown : s.turn.counter = s.ownAddr) (hfrom : nothingFrom s s.ownAddr = true)
    (hv : turnHolder v = none) :
    s.frameInWindow v =
      ((State.hearSource { s with turn := turnAfter s.turn } v).ownTurnEnds v).leaveAfter s.turn.counter := by
  have hpass := turnPasses_nothingFrom (s := s) (hown ▸ hfrom)
  have hu : EngineUpdates { s with turn := turnAfter s.turn } (State.hearSource { s with turn := turnAfter s.turn } v) :=
    (engineUpdates_kept _).hearSource (Updates.refl _) v
  have hnot : State.atOwnTurn { s with turn := turnAfter s.turn } = false := by
    rw [Bool.eq_false_iff, ne_eq, State.atOwnTurn_iff]
    exact fun h => next_ne_own hown h.2
  unfold State.frameInWindow
  dsimp only
  rw [hv, hpass]
  dsimp only
  rw [startOwnTurn_not hnot, State.tellTransmit, hu.ownAddr_eq, if_pos hown]

/-- A station heard that is not ABSENT becomes PRESENT, and nothing else changes (R80). -/
theorem heardFrom_present {a : Station} (hother : a ≠ s.ownAddr) (hpresent : (s.rosterOf a).state ≠ .absent) :
    s.heardFrom a = s.setRoster a heard := by
  have hnot : s.isAbsent a = false := by simpa [State.isAbsent] using hpresent
  unfold State.heardFrom
  dsimp only
  rw [if_neg hother, hnot, if_neg Bool.false_ne_true]
  rfl

theorem rosterOf_heard (s : State) (a b : Station) :
    (s.setRoster a heard).rosterOf b = if b = a then heard else s.rosterOf b := by
  rw [State.rosterOf_setRoster, if_eq_comm]

/-! ## The own turn's segment answered or left unanswered (R93, R98, R109) -/

theorem endedOwnTurn_station (answer : Option Frame) : (s.ownTurnEnds answer).station = s.station :=
  ((engineUpdates_kept s).ownTurnEnds (Updates.refl s) answer).station_eq

theorem unanswered_active {n : ChanId} {answer : Option Frame} (hanswer : ∀ r, answer ≠ some (.reply r))
    (hout : onlyOutstanding s n = true) (hactive : (s.txc n).state = .active) (hattempts : (s.txc n).attempts < 8) :
    s.ownTurnEnds answer = (s.count .unanswered).setTx n (s.txc n).leftInDoubt := by
  rw [ownTurnEnds_only hout, replyFor_none hanswer, applyOutcome_unanswered hattempts]
  refine finishTearing_not ?_
  rw [setTx_txc_self]
  change (s.txc n).state ≠ _
  rw [hactive]
  decide

theorem setTx_txc (s : State) (n m : ChanId) (c : TxChan) : (s.setTx n c).txc m = if m = n then c else s.txc m := by
  rw [State.txc_setTx, if_eq_comm]

/-- Settles O36: IDLE_FRAME_END hands an invalid frame to the turn controller, which opens a turn in the gap, ends the turn in a
window, or starts the listen wait again. -/
theorem idleEndsFrameAsInvalid : Obligations.IdleEndsFrameAsInvalid := by
  intro s k hline hrequest counters since
  rw [exec_idleFrameEnd hline hrequest]
  let u : State := s.idleExceeded.invalidEnd k.counted
  have hturn : s.station = .online → u.frameToTurns k.began none = u.frameInTurn k.began none := fun hst =>
    frameToTurns_inTurns (s := u) (.inl hst) _ _
  refine ⟨fun hst hgap => ?gap, fun hst hwindow hown hnext hlasts => ?other,
    fun n hst hwindow hown hout hactive hattempts hfrom => ?own, fun hst => ?listening⟩
  case gap =>
    refine congrArg Host.Outcome.next ((hturn hst).trans ?_)
    rw [hgap]
    rfl
  case other =>
    have hpass := (hturn hst).trans ((if_pos hwindow).trans (frameInWindow_other (s := u) (v := none) hst hown hnext rfl))
    obtain ⟨hframe, hrxc⟩ := turnPasses_lasts (s := u) hlasts
    refine ⟨_, congrArg Host.Outcome.next hpass, ?_, hrxc⟩
    change u.turnPasses = _
    generalize u.turnPasses = v at *
    rw [hframe]
    rfl
  case own =>
    have hend := (hturn hst).trans ((if_pos hwindow).trans (frameInWindow_own (s := u) (v := none) hown hfrom rfl))
    have hanswer := unanswered_active (s := { u with turn := turnAfter u.turn }) (answer := none) nofun hout hactive hattempts
    have hexit : u.frameToTurns k.began none =
        (State.count { u with turn := turnAfter u.turn } .unanswered).setTx n (s.txc n).leftInDoubt := by
      refine hend.trans ((leaveAfter_online ?_).trans hanswer)
      rw [endedOwnTurn_station]
      exact hst
    refine ⟨_, congrArg Host.Outcome.next hexit, ?_, fun m => ?_⟩
    · rw [← countUp_eq s.counters.unanswered]
      obtain ⟨began, _ | _, remainder⟩ := k
      · rfl
      · rfl
    · rw [setTx_txc]
      rfl
  case listening =>
    exact congrArg Host.Outcome.next (frameToTurns_listening (s := u) hst _ rfl)

/-! ## RESPONSE_WINDOW_EXPIRY (R63, R65, R98, R109) -/

theorem exec_responseWindowExpiry (hst : s.station = .online ∨ s.station = .leaving) (hline : s.line = .quiet)
    (hrequest : s.request = none) (htimer : s.turn.timer = .responseWindow) :
    exec .responseWindowExpiry s = .next (s.turnEnd .byWindow) :=
  congrArg Host.Outcome.next (if_pos ((s.canExpire_iff _).mpr ⟨s.lineInUse_iff.mpr (.inr hst), ⟨hline, hrequest⟩, htimer⟩))

/-- A TEARING channel's segment left unanswered below the limit: the message is cancelled (R98, R145, R147, R148). -/
theorem unanswered_tearing {n : ChanId} {df : TxDef} {h : DescId} {ms : List DescId} {mk : DescId} {rest : List DescId}
    {answer : Option Frame} (hanswer : ∀ r, answer ≠ some (.reply r)) (hout : onlyOutstanding s n = true)
    (hd : (s.txc n).defn = some df) (hstate : (s.txc n).state = .tearing) (hattempts : (s.txc n).attempts < 8)
    (hm : (s.txc n).msg = some h) (hchain : isChain s (h :: ms) = true) (hsubmit : s.queue df.submit = [])
    (hrq : (s.desc h).returnQueue ≠ df.submit) (hpool : s.queue s.cfg.markerPool = mk :: rest)
    (hnext : (s.desc mk).next = none) (hmk : mk ∉ h :: ms) :
    MarkedBack n (tornDown (s.txc n) ((s.txc n).tally + 1)) df .cancelled 1 h ms mk rest (s.count .unanswered)
      (s.ownTurnEnds answer) := by
  rw [ownTurnEnds_only hout, replyFor_none hanswer, applyOutcome_unanswered hattempts]
  exact (finishTearing_inHand (s := (s.count .unanswered).setTx n (s.txc n).leftInDoubt) (c := (s.txc n).leftInDoubt)
    (isChain_of_descs (s := s) rfl hchain) hpool hnext hmk (setTx_txc_self _ _ _) hd hstate hm hsubmit hrq).of_setTx

/-- Settles O40: the window's expiry is a turn end; another station's is counted (`turnPasses_counted`), and the own turn's
leaves the outstanding segment unanswered. -/
theorem windowExpiryEndsTurn : Obligations.WindowExpiryEndsTurn := by
  intro s hsilent
  obtain ⟨hst, hline, hrequest, htimer⟩ := onlineSilent_iff.mp hsilent
  rw [exec_responseWindowExpiry (.inl hst) hline hrequest htimer]
  refine ⟨fun parts hown hnext hend => ?other, fun n hown hout hactive hattempts hfrom => ?active,
    fun n df h ms mk rest hown hout hd hstate hattempts hfrom hm hchain hsubmit hrq hpool hmkNext hmk => ?tearing⟩
  case other =>
    rw [turnEnd_other hst hown hnext (by decide)]
    exact ⟨_, rfl, turnPasses_counted hend⟩
  case active =>
    rw [turnEnd_own hst hown hfrom,
      unanswered_active (s := { s with turn := turnAfter s.turn }) (answer := TurnWay.answer .byWindow) nofun hout hactive
        hattempts]
    refine ⟨_, rfl, ?_, fun m => setTx_txc _ _ _ _⟩
    rw [← countUp_eq]
    rfl
  case tearing =>
    rw [turnEnd_own hst hown hfrom]
    obtain ⟨hframe, htxc, hqueue, hdesc⟩ := unanswered_tearing (s := { s with turn := turnAfter s.turn }) (answer := none)
      nofun hout hd hstate hattempts hm (isChain_of_descs (s := s) rfl hchain) hsubmit hrq hpool hmkNext hmk
    change ∃ t, Host.Outcome.next (State.ownTurnEnds { s with turn := turnAfter s.turn } none) = .next t ∧ _
    generalize State.ownTurnEnds { s with turn := turnAfter s.turn } none = u at *
    refine ⟨_, rfl, ?_, htxc, hqueue, hdesc⟩
    rw [hframe, ← countUp_eq]
    rfl

/-! ## Replies (R94 to R97) -/

/-- The state in which a REPLY's code is taken: the turn has ended and its source has been heard. -/
def State.replied (s : State) (bytes : List Byte) (a : Station) : State :=
  State.setRoster { s.heardEnd bytes with turn := turnAfter s.turn } a heard

theorem isChain_replied {a : Station} {l : List DescId} (hchain : isChain s l = true) :
    isChain (s.replied bytes a) l = true := isChain_of_descs (s := s) rfl hchain

/-- A REPLY in the window of the own turn, from the destination that is not ABSENT: the roster has it PRESENT, and the transmit
engine takes the code. -/
theorem exec_frameEnd_reply {n : ChanId} {df : TxDef} {code : ReplyCode} (hhear : onlineHearing s .window = true)
    (hown : s.turn.counter = s.ownAddr) (hout : onlyOutstanding s n = true) (hd : (s.txc n).defn = some df)
    (hother : df.station ≠ s.ownAddr) (hpresent : (s.rosterOf df.station).state ≠ .absent)
    (hfrom : nothingFrom s s.ownAddr = true)
    (hdecode : decodeFrame bytes = some (.reply { source := df.station, destination := s.ownAddr, channel := df.channel,
                                                  tallyEcho := (s.txc n).tally, code := code })) :
    exec (.frameEnd bytes) s = .next
      (((s.replied bytes df.station).applyOutcome n (some code)).finishTearing n) := by
  obtain ⟨hst, hline, hrequest⟩ := onlineHearing_iff.mp hhear
  rw [exec_frameEnd hline hrequest hdecode fun _ _ => rfl]
  refine congrArg Host.Outcome.next ?_
  let u : State := { s.heardEnd bytes with turn := turnAfter s.turn }
  refine (frameToTurns_inTurns (s := s.heardEnd bytes) (.inl hst) _ _).trans ((if_pos rfl).trans
    ((frameInWindow_own (s := s.heardEnd bytes) (v := some (.reply _)) hown hfrom rfl).trans ?_))
  have hheard : ∀ r : ReplyFrame, r.source = df.station →
      u.hearSource (some (.reply r)) = u.setRoster df.station heard := fun r hr => by
    rw [← hr] at hother hpresent ⊢
    exact heardFrom_present (s := u) hother hpresent
  rw [leaveAfter_online (by rw [endedOwnTurn_station]; change State.station (u.hearSource _) = _; rw [hheard _ rfl]; exact hst)]
  change State.ownTurnEnds (u.hearSource _) _ = _
  rw [hheard _ rfl, ownTurnEnds_only (s := u.setRoster df.station heard) hout,
    replyFor_matching (s := u.setRoster df.station heard) (own := s.ownAddr) (tally := (s.txc n).tally) hd rfl rfl]
  rfl

/-- Settles O34: below the limits TAKEN, SEEN and LATER replace one context; a TEARING channel then cancels its message
(`finishTearing_inHand`). -/
theorem replyMovesMessageOn : Obligations.ReplyMovesMessageOn := by
  intro bytes s n df code c hhear hown hout hc hd hother hpresent hfrom hdecode c' hcase
  subst hc
  rw [exec_frameEnd_reply hhear hown hout hd hother hpresent hfrom hdecode]
  have hmoved : (s.replied bytes df.station).applyOutcome n (some code) = (s.replied bytes df.station).setTx n c' := by
    obtain ⟨hcode, d, e, hcur, hnext, rfl⟩ | ⟨rfl, hlaters, rfl⟩ := hcase
    · exact applyOutcome_taken_next (s := s.replied bytes df.station) hcode hcur hnext
    · exact applyOutcome_later (s := s.replied bytes df.station) hlaters
  have hsame : c'.state = (s.txc n).state ∧ c'.defn = (s.txc n).defn ∧ c'.msg = (s.txc n).msg := by
    obtain ⟨-, d, e, -, -, rfl⟩ | ⟨-, -, rfl⟩ := hcase
    · exact ⟨rfl, rfl, rfl⟩
    · exact ⟨rfl, rfl, rfl⟩
  obtain ⟨hstate, hdefn, hmsg⟩ := hsame
  rw [hmoved]
  refine ⟨fun hactive => ?active, fun h ms mk rest htearing hm hchain hsubmit hrq hpool hmkNext hmk => ?tearing⟩
  case active =>
    rw [finishTearing_not (by rw [setTx_txc_self, hstate, hactive]; decide)]
    exact ⟨_, rfl, rfl, fun b => rosterOf_heard _ _ _, fun m => setTx_txc _ _ _ _⟩
  case tearing =>
    obtain ⟨hframe, htxc, hqueue, hdesc⟩ := (finishTearing_inHand (s := (s.replied bytes df.station).setTx n c')
      (isChain_of_descs (s := s) rfl hchain) hpool hmkNext hmk (setTx_txc_self _ _ _) (hdefn.trans hd)
      (hstate.trans htearing) (hmsg.trans hm) hsubmit hrq).of_setTx
    generalize ((s.replied bytes df.station).setTx n c').finishTearing n = u at *
    have htorn : ∀ tally, tornDown c' tally = tornDown (s.txc n) tally := fun tally => by rw [tornDown, hdefn]; rfl
    refine ⟨_, rfl, ?_, fun b => ?_, fun m => ?_, hqueue, hdesc⟩
    · rw [hframe]
      rfl
    · rw [hframe]
      exact rosterOf_heard _ _ _
    · rw [htxc, htorn]
      rfl

/-- Settles O35: a reply that ends the message is one hand-back; a TEARING channel then pushes its marker
(`finishTearing_ended`). -/
theorem replyEndsMessage : Obligations.ReplyEndsMessage := by
  intro bytes s n df code c h ms d hhear hown hout hc hd hm hcur hchain hother hpresent hfrom hdecode st tally final absence hcase
  subst hc
  rw [exec_frameEnd_reply hhear hown hout hd hother hpresent hfrom hdecode]
  have hended : (s.replied bytes df.station).applyOutcome n (some code) =
      ((s.replied bytes df.station).handBack h st df.station n).setTx n ((s.txc n).endedBy st tally) := by
    obtain ⟨hcode, hnext, rfl, rfl, -⟩ | ⟨rfl, rfl, rfl, -⟩ | ⟨rfl, rfl, rfl, -⟩ := hcase
    · exact applyOutcome_taken_last (s := s.replied bytes df.station) hd hm hcode hcur hnext
    · exact applyOutcome_failed (s := s.replied bytes df.station) hd hm (.inl ⟨rfl, rfl⟩)
    · exact applyOutcome_failed (s := s.replied bytes df.station) hd hm (.inr ⟨rfl, rfl⟩)
  have hfinal : final = (if st = .closed then .halted else .idle)
      ∧ absence = if st = .closed then 0 else (s.txc n).absence := by
    obtain ⟨-, -, rfl, -, rfl, rfl⟩ | ⟨-, rfl, -, rfl, rfl⟩ | ⟨-, rfl, -, rfl, rfl⟩ := hcase
    · exact ⟨rfl, rfl⟩
    · exact ⟨rfl, rfl⟩
    · exact ⟨rfl, rfl⟩
  obtain ⟨rfl, rfl⟩ := hfinal
  rw [hended]
  refine ⟨fun hactive => ?active, fun mk rest htearing hsubmit hrq hpool hmkNext hmk => ?tearing⟩
  case active =>
    have hnot : (s.txc n).state ≠ .tearing := by rw [hactive]; decide
    rw [finishTearing_not (by rw [setTx_txc_self, endedBy_state hnot]; split <;> decide)]
    obtain ⟨hframe, htxc, hqueue, hdesc⟩ := handBack_setTx_spec (isChain_replied (bytes := bytes) (a := df.station) hchain) st
      df.station n n ((s.txc n).endedBy st tally)
    generalize ((s.replied bytes df.station).handBack h st df.station n).setTx n ((s.txc n).endedBy st tally) = u at *
    refine ⟨_, rfl, ?_, fun b => ?_, fun m => ?_, hqueue, hdesc⟩
    · rw [hframe]
      rfl
    · rw [hframe]
      exact rosterOf_heard _ _ _
    · rw [htxc, endedBy_eq hnot, hd]
      rfl
  case tearing =>
    obtain ⟨hframe, htxc, hqueue, hdesc⟩ := finishTearing_ended (st := st) (tally := tally)
      (isChain_replied (bytes := bytes) (a := df.station) hchain) hpool hmkNext hmk hd htearing hsubmit hrq
    generalize (((s.replied bytes df.station).handBack h st df.station n).setTx n ((s.txc n).endedBy st tally)).finishTearing n
      = u at *
    refine ⟨_, rfl, ?_, fun b => ?_, htxc, hqueue, hdesc⟩
    · rw [hframe]
      rfl
    · rw [hframe]
      exact rosterOf_heard _ _ _

end Sys2Proof.Machine
end

section
/-! PROOFS. Collisions: the exit from ONLINE or LEAVING that a collision makes, and the outstanding segment it leaves unanswered
(R53, R54, R57, R74, R75, R77, R78, R98, R105, R109, R131). -/

namespace Sys2Proof.Machine

open Sys2Proof.Safety

variable {s t : State}

/-! ## What ends, in states that hold the same messages -/

theorem ending_sameMessages {p p' : TxChan → Bool} {r : RxChan → Bool} {msgs parts : ChanId → List DescId}
    (h : ending s p r msgs parts = true)
    (htxc : ∀ n, (t.txc n).defn = (s.txc n).defn ∧ (t.txc n).msg = (s.txc n).msg ∧ p' (t.txc n) = p (s.txc n))
    (hrx : t.rx = s.rx) (hdescs : t.descs = s.descs) : ending t p' r msgs parts = true := by
  have hrxc : ∀ n, t.rxc n = s.rxc n := fun n => congrArg (look · n) hrx
  have hdesc : ∀ e, t.desc e = s.desc e := fun e => congrArg (look · e) hdescs
  have hmsg : ∀ n l, messageAt t p' n l = messageAt s p n l := fun n l => by
    obtain ⟨hdefn, hm, hp⟩ := htxc n
    have hchain : isChain t l = isChain s l := isChain_congr fun e _ => hdesc e
    simp only [messageAt, hdefn, hm, hp, hchain]
  have hpart : ∀ n l, partialAt t r n l = partialAt s r n l := fun n _ => partialAt_congr (hrxc n) fun e _ => hdesc e
  simp only [ending, hmsg, hpart] at h ⊢
  exact h

theorem endedDesc_sameDefns {msgs parts : ChanId → List DescId} (htxc : ∀ n, (t.txc n).defn = (s.txc n).defn)
    (hrx : t.rx = s.rx) (hdescs : t.descs = s.descs) (e : DescId) : endedDesc t msgs parts e = endedDesc s msgs parts e := by
  have hrxc : ∀ n, t.rxc n = s.rxc n := fun n => congrArg (look · n) hrx
  have hdesc : t.desc e = s.desc e := congrArg (look · e) hdescs
  simp only [endedDesc, messageDesc, partialDesc, htxc, hrxc, hdesc]

theorem ending_parts_nil {p : TxChan → Bool} {msgs parts : ChanId → List DescId}
    (h : ending s p (fun _ => false) msgs parts = true) : parts = fun _ => [] := by
  simp only [ending, Bool.and_eq_true, allChans_all_iff] at h
  exact funext fun n => partialAt_empty rfl (h.1 n).2

/-! ## The exit that a collision makes (R54, R57, R74, R75, R78) -/

/-- The station, the line and the events after a collision: OFFLINE, or in resync (R54, R57, R74, R75). -/
def State.collisionLeft (w : State) (off : Bool) : State :=
  if off = true then
    { w with
      station := .offline, line := .quiet, request := none, turn := turnOff w.turn, sinceLow := 0,
      events := { w.events with fault := w.events.fault || w.turn.collided == 8,
                                abandon := w.events.abandon || !noneBusy w } }
  else
    { w with
      station := .listening, line := .skipping { began := .other, counted := false, remainder := true },
      turn := { turnOff w.turn with flavour := .resync } }

/-- `t` has left ONLINE or LEAVING by a collision from `w`, in which the collision is counted and its segment's outcome taken:
the messages `msgs` have failed and, OFFLINE, the partials `parts` have gone back (R99, R105, R131). -/
def CollisionExit (off : Bool) (msgs parts : ChanId → List DescId) (w t : State) : Prop :=
  t = { w.collisionLeft off with tx := t.tx, rx := t.rx, descs := t.descs, queues := t.queues }
  ∧ (∀ m, t.txc m = afterExit (w.txc m))
  ∧ (∀ m, t.rxc m = if off = true then afterOffline (w.rxc m) else w.rxc m)
  ∧ (∀ q, t.queue q = w.queue q ++ endedTo w msgs parts q) ∧ ∀ e, t.desc e = endedDesc w msgs parts e

/-- What `collide` comes to once the collision is counted and the outcome taken. -/
def State.exitCollided (w : State) : State :=
  if Config.faultLimit ≤ w.turn.collided then w.goFault else if w.station = .leaving then w.goOffline else w.goResync

theorem cutOff_eq (hlow : s.sinceLow = 0) :
    s.cutOff = { s with station := .offline, line := .quiet, request := none, turn := turnOff s.turn, sinceLow := 0 } := by
  unfold State.cutOff State.stopLine
  rw [hlow, ite_self]

section
variable {w : State} {msgs parts : ChanId → List DescId}

theorem collisionExit_offline (hst : w.station = .online ∨ w.station = .leaving) (hlow : w.sinceLow = 0)
    (hcollided : w.turn.collided ≤ 8) (hoff : w.station = .leaving ∨ w.turn.collided = 8)
    (hend : ending w TxChan.doubt RxChan.busy msgs parts = true) : CollisionExit true msgs parts w w.exitCollided := by
  obtain ⟨hframe, htxc, hrxc, hqueue, hdesc⟩ := goOffline_ending hst hend
  rw [cutOff_eq hlow] at hframe
  unfold State.exitCollided
  by_cases hfault : w.turn.collided = 8
  · have hlimit : Config.faultLimit ≤ w.turn.collided := hfault.ge
    rw [if_pos hlimit, State.goFault]
    generalize w.goOffline = u at *
    refine ⟨?_, htxc, hrxc, hqueue, hdesc⟩
    rw [hframe, State.collisionLeft, if_pos rfl, hfault, beq_self_eq_true, Bool.or_true]
    rfl
  · have hbelow : ¬ Config.faultLimit ≤ w.turn.collided := fun hle => hfault (le_antisymm hcollided hle)
    rw [if_neg hbelow, if_pos (hoff.resolve_right hfault)]
    generalize w.goOffline = u at *
    refine ⟨?_, htxc, hrxc, hqueue, hdesc⟩
    rw [hframe, State.collisionLeft, if_pos rfl, beq_false_of_ne hfault, Bool.or_false]

theorem collisionExit_resync (hst : w.station = .online) (hcollided : w.turn.collided < 8)
    (hend : ending w TxChan.doubt (fun _ => false) msgs (fun _ => []) = true) :
    CollisionExit false msgs (fun _ => []) w w.exitCollided := by
  have hbelow : ¬ Config.faultLimit ≤ w.turn.collided := Nat.not_le.mpr hcollided
  unfold State.exitCollided
  rw [if_neg hbelow, if_neg (by rw [hst]; decide)]
  obtain ⟨hframe, htxc, hqueue, hdesc⟩ := interrupt_ending
    { w with
      station := .listening, line := .skipping { began := .other, counted := false, remainder := true },
      turn := { turnOff w.turn with flavour := .resync } } msgs (ending_moved hend rfl rfl rfl)
  change CollisionExit _ _ _ _ (State.interrupt { w with
    station := .listening, line := .skipping { began := .other, counted := false, remainder := true },
    turn := { turnOff w.turn with flavour := .resync } })
  generalize State.interrupt _ = u at *
  refine ⟨?_, htxc, fun m => ?_, hqueue, hdesc⟩
  · rw [hframe]
    rfl
  · rw [hframe]
    rfl

/-- Either exit, by whether the collision takes the station OFFLINE. -/
theorem collisionExit {off : Bool} (hst : w.station = .online ∨ w.station = .leaving) (hlow : w.sinceLow = 0)
    (hcollided : w.turn.collided ≤ 8) (hoff : off = (w.station == .leaving || w.turn.collided == 8))
    (hend : ending w TxChan.doubt (fun r => off && r.busy) msgs parts = true) :
    CollisionExit off msgs parts w w.exitCollided := by
  cases off with
  | true => exact collisionExit_offline hst hlow hcollided (by simpa using hoff.symm) hend
  | false =>
    obtain ⟨hnot, hbelow⟩ : w.station ≠ .leaving ∧ w.turn.collided ≠ 8 := by simpa using hoff.symm
    obtain rfl := ending_parts_nil hend
    exact collisionExit_resync (hst.resolve_right hnot) (lt_of_le_of_ne hcollided hbelow) hend

end

/-! ## COLLISION and FAULT (R53, R74, R75) -/

/-- The collision counted (R53, R75). -/
def State.collidedOnce (s : State) : State :=
  { s with turn := { s.turn with collided := s.turn.collided + 1 }, sinceLow := 0,
           counters := { s.counters with collisions := min (s.counters.collisions + 1) 65535 } }

theorem counted_collision (s : State) :
    (({ s with turn := { s.turn with collided := s.turn.collided + 1 } } : State).count .collisions).lowNow = s.collidedOnce := by
  unfold State.collidedOnce
  rw [← countUp_eq]
  rfl

theorem collide_data (s : State) (f : DataFrame) : s.collide (.data f) = (s.collidedOnce.ownTurnEnds none).exitCollided := by
  unfold State.collide
  dsimp only
  rw [counted_collision]
  rfl

theorem collide_other {f : Frame} (hf : ∀ g, f ≠ .data g) : s.collide f = s.collidedOnce.exitCollided := by
  unfold State.collide
  dsimp only
  rw [counted_collision]
  cases f with
  | data g => exact absurd rfl (hf g)
  | pass a => rfl
  | reply r => rfl

/-- FAULT is the collision that brings the count to 8 (R75). -/
theorem exec_collision {f : Frame} {c : Instr} (hline : s.line = .sending f)
    (hc : c = .collision ∨ c = .fault ∧ s.turn.collided + 1 = 8) : exec c s = .next (s.collide f) := by
  obtain rfl | ⟨rfl, hfault⟩ := hc
  · change Host.Outcome.next _ = _
    rw [hline]
  · change Host.Outcome.next _ = _
    rw [hline]
    exact congrArg Host.Outcome.next (if_pos hfault.ge)

/-- Settles O38: no segment is involved, so the collision is its exit (`collisionExit`). -/
theorem collisionResyncsOrFaults : Obligations.CollisionResyncsOrFaults := by
  intro s f hst hline hf counters
  refine ⟨fun msgs hbelow hend => ?resync, fun msgs parts hfault hend c hc => ?fault⟩
  case resync =>
    rw [exec_collision hline (.inl rfl), collide_other hf]
    obtain ⟨hframe, htxc, hrxc, hqueue, hdesc⟩ := collisionExit_resync (w := s.collidedOnce) hst hbelow
      (ending_moved hend rfl rfl rfl)
    generalize s.collidedOnce.exitCollided = u at *
    have hrx : u.rx = s.rx := table_ext hrxc
    refine ⟨_, rfl, hframe.trans ?_, htxc, hqueue, hdesc⟩
    rw [hrx]
    rfl
  case fault =>
    have hc' : c = .collision ∨ c = .fault ∧ s.turn.collided + 1 = 8 := by
      obtain rfl | hc := List.mem_cons.mp hc
      · exact .inl rfl
      · exact .inr ⟨List.mem_singleton.mp hc, hfault⟩
    rw [exec_collision hline hc', collide_other hf]
    obtain ⟨hframe, htxc, hrxc, hqueue, hdesc⟩ := collisionExit_offline (w := s.collidedOnce) (.inl hst) rfl hfault.le
      (.inr hfault) (ending_moved hend rfl rfl rfl)
    generalize s.collidedOnce.exitCollided = u at *
    refine ⟨_, rfl, ?_, htxc, hrxc, hqueue, hdesc⟩
    have hleft : s.collidedOnce.collisionLeft true = { s with
        station := .offline, line := .quiet, request := none, turn := { turnOff s.turn with collided := 8 },
        counters := counters, sinceLow := 0,
        events := { s.events with fault := true, abandon := s.events.abandon || !noneBusy s } } := by
      unfold State.collisionLeft State.collidedOnce
      dsimp only
      rw [if_pos rfl, hfault, beq_self_eq_true, Bool.or_true]
      rfl
    rw [hframe, hleft]

end Sys2Proof.Machine
end

section
/-! PROOFS. A collision on the DATA frame of the outstanding segment: its message is in doubt at the exit, fails at the eighth
attempt, or is cancelled by the teardown that waited for it (R92, R98 to R100, R105, R109, R145 to R148). -/

namespace Sys2Proof.Machine

open Sys2Proof.Safety

variable {s t : State} {n : ChanId} {df : TxDef} {h : DescId} {ms : List DescId}

/-! ## One message that ends -/

theorem flatMap_single {α : Type} {l : List ChanId} {f : ChanId → List α} (hl : l.Nodup) (hn : n ∈ l)
    (hf : ∀ m, m ≠ n → f m = []) : l.flatMap f = f n := by
  induction l with
  | nil => cases hn
  | cons m l ih =>
    obtain ⟨hm, hl⟩ := List.nodup_cons.mp hl
    rw [List.flatMap_cons]
    by_cases hmn : m = n
    · subst hmn
      have hnone : l.flatMap f = [] := List.flatMap_eq_nil_iff.mpr fun k hk => hf k fun hkm => hm (hkm ▸ hk)
      rw [hnone, List.append_nil]
    · rw [hf m hmn, ih hl ((List.mem_cons.mp hn).resolve_left (Ne.symm hmn)), List.nil_append]

theorem partsTo_none (s : State) (q : QueueId) :
    (allChans.flatMap fun n => match (s.rxc n).defn with
      | some df => partialTo df ([] : List DescId) q
      | none => []) = [] := by
  rw [List.flatMap_eq_nil_iff]
  intro n _
  split
  · rfl
  · rfl

section
variable {msgs : ChanId → List DescId} (hmsg : msgs n = h :: ms) (hothers : ∀ m, m ≠ n → msgs m = [])
include hmsg hothers

theorem endedTo_message (s : State) (q : QueueId) :
    endedTo s msgs (fun _ => []) q = if q = (s.desc h).returnQueue then [h] else [] := by
  have hsingle := flatMap_single (f := fun m => (msgs m).head?.toList.filter fun d => (s.desc d).returnQueue == q)
    allChans_nodup (mem_allChans n) fun m hm => by rw [hothers m hm]; rfl
  refine (congrArg₂ (· ++ ·) hsingle (partsTo_none s q)).trans ?_
  rw [List.append_nil, hmsg]
  by_cases hq : q = (s.desc h).returnQueue
  · simp [hq]
  · simp [hq, Ne.symm hq]

theorem endedDesc_message (hd : (s.txc n).defn = some df) (e : DescId) :
    endedDesc s msgs (fun _ => []) e = messageDesc s df.station n .noAnswer (h :: ms) e := by
  have hmem : ∀ m, (msgs m).contains e = true → m = n ∧ e ∈ h :: ms := fun m hm => by
    by_cases hmn : m = n
    · subst hmn
      exact ⟨rfl, hmsg ▸ List.contains_iff_mem.mp hm⟩
    · rw [hothers m hmn] at hm
      cases hm
  unfold endedDesc
  cases hfind : allChans.find? fun m => (msgs m).contains e with
  | some m =>
    obtain ⟨rfl, -⟩ := hmem m (List.find?_some (p := fun m => (msgs m).contains e) hfind)
    dsimp only
    rw [hd, hmsg]
  | none =>
    have hnot : e ∉ h :: ms := fun he => List.find?_eq_none.mp hfind n (mem_allChans n)
      (List.contains_iff_mem.mpr (hmsg.symm ▸ he))
    obtain ⟨hne, hms⟩ := not_or.mp (List.mem_cons.not.mp hnot)
    rw [messageDesc_cons, if_neg hne, if_neg hms]
    rfl

end

/-- A chain is fixed by its head. -/
theorem isChain_unique {l l' : List DescId} (hl : isChain s (h :: l) = true) (hl' : isChain s (h :: l') = true) : l = l' :=
  List.tail_eq_of_cons_eq ((chain_of_isChain s hl).symm.trans (chain_of_isChain s hl'))

/-- The message in hand that ends is the chain of its head. -/
theorem messageAt_chain {p : TxChan → Bool} {l : List DescId} (hd : (s.txc n).defn = some df) (hm : (s.txc n).msg = some h)
    (hp : p (s.txc n) = true) (hchain : isChain s (h :: ms) = true) (hl : messageAt s p n l = true) : l = h :: ms := by
  unfold messageAt at hl
  rw [hd, hm, hp] at hl
  obtain ⟨hhead, hlinked⟩ : (l.head? == some h) = true ∧ isChain s l = true := (Bool.and_eq_true _ _).mp hl
  clear hl
  cases l with
  | nil => cases hhead
  | cons d l =>
    obtain rfl : d = h := Option.some.inj (beq_iff_eq.mp hhead)
    rw [isChain_unique hlinked hchain]

/-! ## The state after the outcome -/

/-- The collision on a DATA frame counted, and its sending as unanswered (R53, R98). -/
def State.collidedUnanswered (s : State) : State := s.collidedOnce.count .unanswered

/-- What the collision on a DATA frame leaves of `s`, told of a state `u` in which its segment's outcome has been taken. -/
def CollisionLeft (off : Bool) (msgs parts : ChanId → List DescId) (s u t : State) : Prop :=
  t = { s.collidedUnanswered.collisionLeft off with tx := t.tx, rx := t.rx, descs := t.descs, queues := t.queues }
  ∧ (∀ m, t.txc m = afterExit (u.txc m))
  ∧ (∀ m, t.rxc m = if off = true then afterOffline (s.rxc m) else s.rxc m)
  ∧ (∀ q, t.queue q = u.queue q ++ endedTo u msgs parts q) ∧ ∀ e, t.desc e = endedDesc u msgs parts e

theorem exits_frame {off : Bool} {msgs parts : ChanId → List DescId} {w : State}
    (hw : w = { s.collidedUnanswered with tx := w.tx, descs := w.descs, queues := w.queues })
    (hexit : CollisionExit off msgs parts w t) :
    t = { s.collidedUnanswered.collisionLeft off with tx := t.tx, rx := t.rx, descs := t.descs, queues := t.queues } := by
  obtain ⟨hframe, -, -, -, -⟩ := hexit
  refine hframe.trans ?_
  rw [hw]
  cases off with
  | true => rfl
  | false => rfl

theorem collidedUnanswered_counters (s : State) : s.collidedUnanswered.counters =
    { s.counters with collisions := min (s.counters.collisions + 1) 65535, unanswered := min (s.counters.unanswered + 1) 65535 } := by
  rw [← countUp_eq s.counters.unanswered]
  rfl

theorem exec_collision_data {f : DataFrame} {c : Instr} (hline : s.line = .sending (.data f))
    (hc : c = .collision ∨ c = .fault ∧ s.turn.collided + 1 = 8) :
    exec c s = .next (s.collidedOnce.ownTurnEnds none).exitCollided := by
  rw [exec_collision hline hc, collide_data]

/-- The exit of a collision whose segment's outcome has left `w`. -/
theorem collisionExit_of_frame {off : Bool} {msgs parts : ChanId → List DescId} {w : State}
    (hst : s.station = .online ∨ s.station = .leaving) (hcollided : s.turn.collided + 1 ≤ 8)
    (hoff : off = (s.station == .leaving || s.turn.collided + 1 == 8))
    (hw : w = { s.collidedUnanswered with tx := w.tx, descs := w.descs, queues := w.queues })
    (hend : ending w TxChan.doubt (fun r => off && r.busy) msgs parts = true) :
    CollisionExit off msgs parts w w.exitCollided := by
  have hstation : w.station = s.station := by rw [hw]; rfl
  have hturn : w.turn.collided = s.turn.collided + 1 := by rw [hw]; rfl
  exact collisionExit (hstation ▸ hst) (by rw [hw]; rfl) (hturn ▸ hcollided) (by rw [hstation, hturn]; exact hoff) hend

/-- The exit from `w`, told of a state `u` with the same contexts up to what `afterExit` reads. -/
theorem CollisionExit.left {off : Bool} {msgs parts : ChanId → List DescId} {u w : State}
    (hexit : CollisionExit off msgs parts w t)
    (hw : w = { s.collidedUnanswered with tx := w.tx, descs := w.descs, queues := w.queues })
    (htxc : ∀ m, afterExit (w.txc m) = afterExit (u.txc m) ∧ (w.txc m).defn = (u.txc m).defn) (hrx : u.rx = s.rx)
    (hdescs : w.descs = u.descs) (hqueues : w.queues = u.queues) : CollisionLeft off msgs parts s u t := by
  have hleft := exits_frame hw hexit
  obtain ⟨-, hexitTx, hexitRx, hexitQueue, hexitDesc⟩ := hexit
  have hwrx : w.rx = s.rx := by rw [hw]; rfl
  have hrxc : ∀ m, w.rxc m = u.rxc m := fun m => congrArg (look · m) (hwrx.trans hrx.symm)
  have hqueue : ∀ q, w.queue q = u.queue q := fun q => congrArg (look · q) hqueues
  have hdesc : ∀ e, w.desc e = u.desc e := fun e => congrArg (look · e) hdescs
  refine ⟨hleft, fun m => ?_, fun m => ?_, fun q => ?_, fun e => ?_⟩
  · obtain ⟨hafter, -⟩ := htxc m
    rw [hexitTx, hafter]
  · rw [hexitRx, State.rxc, hwrx]
    rfl
  · rw [hexitQueue, hqueue]
    simp only [endedTo, hrxc, hdesc]
  · rw [hexitDesc]
    exact endedDesc_sameDefns (fun m => (htxc m).2) (hwrx.trans hrx.symm) hdescs e

/-- A message that failed at the eighth attempt leaves what its failure at the exit would have left (R98, R99, R105). -/
theorem afterExit_endedBy {c : TxChan} (hd : c.defn = some df) (hm : c.msg = some h) (hactive : c.state = .active) :
    afterExit (c.endedBy .noAnswer (c.tally + 1)) = afterExit { c with doubt := true } := by
  rw [endedBy_eq (by rw [hactive]; decide)]
  simp [afterExit, afterFailure, hd, hm, hactive]

/-- With the eighth attempt the message fails before the exit, which then finds nothing in doubt. -/
theorem collisionLeft_gaveUp {off : Bool} {msgs parts : ChanId → List DescId} {u w : State} (hd : (s.txc n).defn = some df)
    (hm : (s.txc n).msg = some h) (hactive : (s.txc n).state = .active) (hchain : isChain s (h :: ms) = true)
    (hothers : ∀ m, m ≠ n → (s.txc m).doubt = false) (hst : s.station = .online ∨ s.station = .leaving)
    (hcollided : s.turn.collided + 1 ≤ 8) (hoff : off = (s.station == .leaving || s.turn.collided + 1 == 8))
    (hu : u = s.setTx n { s.txc n with doubt := true })
    (hw : w = (s.collidedUnanswered.handBack h .noAnswer df.station n).setTx n
      ((s.txc n).endedBy .noAnswer ((s.txc n).tally + 1)))
    (hend : ending u TxChan.doubt (fun r => off && r.busy) msgs parts = true) :
    CollisionLeft off msgs parts s u w.exitCollided := by
  have hmessages : ∀ m, messageAt u TxChan.doubt m (msgs m) = true := fun m => by
    simp only [ending, Bool.and_eq_true, allChans_all_iff] at hend
    exact (hend.1 m).1
  have hself : u.txc n = { s.txc n with doubt := true } := by rw [hu, setTx_txc_self]
  have hother : ∀ m, m ≠ n → u.txc m = s.txc m := fun m hmn => by rw [hu, setTx_txc_other _ _ hmn]
  have hdescs : u.descs = s.descs := by rw [hu]; rfl
  have hqueues : u.queues = s.queues := by rw [hu]; rfl
  have hurx : u.rx = s.rx := by rw [hu]; rfl
  have hmsgs : msgs n = h :: ms := messageAt_chain (s := u) (p := TxChan.doubt) (by rw [hself]; exact hd)
    (by rw [hself]; exact hm) (by rw [hself]) (isChain_of_descs hdescs hchain) (hmessages n)
  have hempty : ∀ m, m ≠ n → msgs m = [] := fun m hmn =>
    messageAt_empty (by rw [hother m hmn]; exact hothers m hmn) (hmessages m)
  obtain ⟨hframe, htxc, hqueue, hdesc⟩ := handBack_setTx_spec (s := s.collidedUnanswered)
    (isChain_of_descs (s := s) rfl hchain) .noAnswer df.station n n ((s.txc n).endedBy .noAnswer ((s.txc n).tally + 1))
  rw [← hw] at hframe htxc hqueue hdesc
  have hdescU : ∀ e, messageDesc u df.station n .noAnswer (h :: ms) e = messageDesc s df.station n .noAnswer (h :: ms) e :=
    fun e => by simp only [messageDesc, State.desc, hdescs]
  have hcalm : ∀ m, (w.txc m).doubt = false := fun m => by
    rw [htxc]
    by_cases hmn : m = n
    · rw [if_pos hmn]
      rfl
    · rw [if_neg hmn]
      exact hothers m hmn
  have hrx : w.rx = s.rx := by rw [hframe]; rfl
  obtain ⟨hend', hto, hdescTo⟩ := ending_parts (u := w) hend (fun m => congrArg (look · m) (hrx.trans hurx.symm)) fun e =>
    ((hdesc e).trans (hdescU e).symm).trans (endedDesc_message hmsgs hempty (by rw [hself]; exact hd) e).symm
  have hexit := collisionExit_of_frame (w := w) hst hcollided hoff hframe
    (ending_sameMessages (s := w) hend' (fun m => ⟨rfl, rfl, hcalm m⟩) rfl rfl)
  have hleft := exits_frame hframe hexit
  obtain ⟨-, hexitTx, hexitRx, hexitQueue, hexitDesc⟩ := hexit
  refine ⟨hleft, fun m => ?_, fun m => ?_, fun q => ?_, fun e => ?_⟩
  · rw [hexitTx, htxc]
    by_cases hmn : m = n
    · rw [if_pos hmn, hmn, hself]
      exact afterExit_endedBy hd hm hactive
    · rw [if_neg hmn, hother m hmn]
      rfl
  · rw [hexitRx, State.rxc, hrx]
    rfl
  · rw [hexitQueue, hqueue, hto, endedTo_message hmsgs hempty, List.append_assoc, State.queue, State.queue, State.desc,
      State.desc, hdescs, hqueues]
    rfl
  · rw [hexitDesc, hdescTo]

/-- Below the eighth attempt the message is in doubt at the exit (R98, R105). -/
theorem collisionLeft_inDoubt {off : Bool} {msgs parts : ChanId → List DescId} {u w : State} (hd : (s.txc n).defn = some df)
    (hm : (s.txc n).msg = some h) (hst : s.station = .online ∨ s.station = .leaving)
    (hcollided : s.turn.collided + 1 ≤ 8) (hoff : off = (s.station == .leaving || s.turn.collided + 1 == 8))
    (hu : u = s.setTx n { s.txc n with doubt := true }) (hw : w = s.collidedUnanswered.setTx n (s.txc n).leftInDoubt)
    (hend : ending u TxChan.doubt (fun r => off && r.busy) msgs parts = true) :
    CollisionLeft off msgs parts s u w.exitCollided := by
  have hframe : w = { s.collidedUnanswered with tx := w.tx, descs := w.descs, queues := w.queues } := by rw [hw]; rfl
  have hafter : afterExit (s.txc n).leftInDoubt = afterExit { s.txc n with doubt := true } := by
    simp [afterExit, afterFailure, TxChan.leftInDoubt, hd, hm]
  have htxc : ∀ m, afterExit (w.txc m) = afterExit (u.txc m) ∧ (w.txc m).defn = (u.txc m).defn
      ∧ (w.txc m).msg = (u.txc m).msg ∧ (w.txc m).doubt = (u.txc m).doubt := fun m => by
    rw [hu, hw]
    by_cases hmn : m = n
    · rw [hmn, setTx_txc_self, setTx_txc_self]
      exact ⟨hafter, rfl, rfl, rfl⟩
    · rw [setTx_txc_other _ _ hmn, setTx_txc_other _ _ hmn]
      exact ⟨rfl, rfl, rfl, rfl⟩
  have hend' : ending w TxChan.doubt (fun r => off && r.busy) msgs parts = true :=
    ending_sameMessages hend (fun m => (htxc m).2) (by rw [hw, hu]; rfl) (by rw [hw, hu]; rfl)
  exact (collisionExit_of_frame hst hcollided hoff hframe hend').left hframe (fun m => ⟨(htxc m).1, (htxc m).2.1⟩)
    (by rw [hu]; rfl) (by rw [hw, hu]; rfl) (by rw [hw, hu]; rfl)

/-- The teardown that a collision completes, told of the station before the collision. -/
theorem MarkedBack.tornDownUnanswered {st : DescStatus} {total : Nat} {mk : DescId} {rest : List DescId} {w : State}
    (hpool : s.queue s.cfg.markerPool = mk :: rest)
    (hback : MarkedBack n (tornDown (s.txc n) ((s.txc n).tally + 1)) df st total h ms mk rest s.collidedUnanswered w) :
    TornDownUnanswered n df st total (h :: ms) mk s { s with tx := w.tx, descs := w.descs, queues := w.queues } := by
  obtain ⟨-, htxc, hqueue, hdesc⟩ := hback
  refine ⟨rfl, htxc, fun q => (hqueue q).trans ?_, hdesc⟩
  change (if q = s.cfg.markerPool then rest else s.queue q) ++ (if q = (s.desc h).returnQueue then [h] else []) ++ _ = _
  have hmarkers : (if q = s.cfg.markerPool then rest else s.queue q)
      = if q = s.cfg.markerPool then (s.queue q).tail else s.queue q := by
    by_cases hq : q = s.cfg.markerPool
    · rw [if_pos hq, if_pos hq, hq, hpool, List.tail_cons]
    · rw [if_neg hq, if_neg hq]
  have hback : (if q = (s.desc h).returnQueue then [h] else [])
      = (h :: ms).head?.toList.filter fun d => (s.desc d).returnQueue == q := by
    by_cases hq : q = (s.desc h).returnQueue
    · simp [hq]
    · simp [hq, Ne.symm hq]
  rw [hmarkers, hback]

/-- Settles O39: the collision's exit (`collisionExit`) from the state that the unanswered outcome left, in doubt, failed, or
torn down. -/
theorem collisionFailsDoubtfulMessage : Obligations.CollisionFailsDoubtfulMessage := by
  intro s f n df h ms c hst hline hcollided hout hd hm hchain hc off counted left exits
  have hexec := exec_collision_data hline hc
  have hcounters := collidedUnanswered_counters s
  have hexits : ∀ u msgs parts t, CollisionLeft off msgs parts s u t → exits u msgs parts t := fun u msgs parts t hleft => by
    obtain ⟨hframe, htxc, hrxc, hqueue, hdesc⟩ := hleft
    refine ⟨hframe.trans ?_, htxc, hrxc, hqueue, hdesc⟩
    have hbase : s.collidedUnanswered = { counted with turn := { s.turn with collided := s.turn.collided + 1 } } := by
      simp only [counted, ← hcounters]
      rfl
    rw [hbase]
    rfl
  have hanswered := ownTurnEnds_only (s := s.collidedOnce) hout none
  rw [replyFor_none (s := s.collidedOnce) (n := n) (v := none) nofun] at hanswered
  refine ⟨fun msgs parts hactive hcase => ?active,
    fun mk st total htearing hcase hsubmit hrq hpool hmkNext hmk => ?tearing⟩
  case active =>
    intro u hend
    refine ⟨_, hexec, hexits _ _ _ _ ?_⟩
    by_cases hattempts : (s.txc n).attempts < 8
    · exact collisionLeft_inDoubt hd hm hst hcollided rfl rfl
        (unanswered_active (s := s.collidedOnce) nofun hout hactive hattempts) hend
    · have hnot : (s.txc n).state ≠ .tearing := by rw [hactive]; decide
      rw [applyOutcome_gaveUp (s := s.collidedOnce) hd hm (Nat.not_lt.mp hattempts), finishTearing_not (by
        rw [setTx_txc_self]
        change ((s.txc n).endedBy _ _).state ≠ _
        rw [endedBy_state hnot]
        decide)] at hanswered
      exact collisionLeft_gaveUp hd hm hactive hchain (hcase.resolve_left hattempts) hst hcollided rfl rfl hanswered hend
  case tearing =>
    obtain ⟨rest, hpool⟩ : ∃ rest, s.queue s.cfg.markerPool = mk :: rest := by
      cases hq : s.queue s.cfg.markerPool with
      | nil => rw [hq] at hpool; cases hpool
      | cons d l => rw [hq] at hpool; exact ⟨l, by rw [Option.some.inj hpool]⟩
    have hback : MarkedBack n (tornDown (s.txc n) ((s.txc n).tally + 1)) df st total h ms mk rest s.collidedUnanswered
        (s.collidedOnce.ownTurnEnds none) := by
      obtain ⟨hattempts, rfl, rfl⟩ | ⟨hattempts, rfl, rfl⟩ := hcase
      · exact unanswered_tearing (s := s.collidedOnce) nofun hout hd htearing hattempts hm
          (isChain_of_descs (s := s) rfl hchain) hsubmit hrq hpool hmkNext hmk
      · rw [hanswered, applyOutcome_gaveUp (s := s.collidedOnce) hd hm hattempts]
        exact finishTearing_ended (s := s.collidedUnanswered) (isChain_of_descs (s := s) rfl hchain) hpool hmkNext hmk hd
          htearing hsubmit hrq
    refine ⟨_, hback.tornDownUnanswered hpool, fun msgs parts hend => ⟨_, hexec, hexits _ _ _ _ ?_⟩⟩
    obtain ⟨hframe, -, -, -⟩ := hback
    generalize s.collidedOnce.ownTurnEnds none = w at *
    have hrx : w.rx = s.rx := by rw [hframe]; rfl
    exact (collisionExit_of_frame hst hcollided rfl hframe (ending_moved hend rfl hrx rfl)).left hframe
      (fun m => ⟨rfl, rfl⟩) rfl rfl rfl

end Sys2Proof.Machine
end

section
/-! PROOFS. Valid PASS and DATA frames heard: in turn, adopted, and slipping (R50, R60 to R68, R71, R73, R80, R104, R129). -/

namespace Sys2Proof.Machine

open Sys2Proof.Safety

variable {s t : State} {bytes : List Byte}

/-! ## Frames that hold a turn (R43 to R45, R62, R64) -/

/-- The frame is a PASS or DATA of the station. -/
def OpensTurn (g : Frame) (b : Station) : Prop := g = .pass b ∨ ∃ f, g = .data f ∧ f.source = b

theorem OpensTurn.source {g : Frame} {b : Station} (h : OpensTurn g b) : g.source = b := by
  obtain rfl | ⟨f, rfl, hf⟩ := h
  · rfl
  · exact hf

theorem OpensTurn.holder {g : Frame} {b : Station} (h : OpensTurn g b) : turnHolder (some g) = some g := by
  obtain rfl | ⟨f, rfl, -⟩ := h
  · rfl
  · rfl

theorem OpensTurn.not_reply {g : Frame} {b : Station} (h : OpensTurn g b) (r : ReplyFrame) : g ≠ .reply r := by
  obtain rfl | ⟨f, rfl, -⟩ := h
  · nofun
  · nofun

theorem holdTurn_inTurn {g : Frame} (h : g.source = s.turn.counter) : s.holdTurn false g = s.openTurn g :=
  congrArg (State.openTurn · g) (if_neg (by simp [h]))

theorem holdTurn_slips {g : Frame} {inWindow : Bool} (h : g.source ≠ s.turn.counter ∨ inWindow = true) :
    s.holdTurn inWindow g = (s.slipTo g.source).openTurn g :=
  congrArg (State.openTurn · g) (if_pos h)

/-- A DATA frame for another station, or one that the station does not answer yet (R59, R114). -/
theorem heardData_elsewhere {f : DataFrame} (h : f.destination ≠ s.ownAddr ∨ s.turn.quiet ≠ 0) : s.heardData f = s :=
  if_neg fun hcond => by
    obtain ⟨hdest, -, hquiet⟩ := hcond
    exact h.elim (· hdest) (· hquiet)

/-- FRAME_END with a PASS or DATA in the gap, ONLINE: roster, then the turn it opens, then the receive engine. -/
theorem exec_frameEnd_gap {g : Frame} {b : Station} (hhear : onlineHearing s .gap = true) (hdecode : decodeFrame bytes = some g)
    (hg : OpensTurn g b) :
    exec (.frameEnd bytes) s =
      .next ((((s.heardEnd bytes).heardFrom b).holdTurn false g).frameToEngines (some g)) := by
  obtain ⟨hst, hline, hrequest⟩ := onlineHearing_iff.mp hhear
  rw [exec_frameEnd hline hrequest hdecode fun r hr => absurd hr (hg.not_reply r)]
  refine congrArg (fun u => Host.Outcome.next (State.frameToEngines u (some g))) ?_
  refine (frameToTurns_inTurns (s := s.heardEnd bytes) (.inl hst) _ _).trans ((if_neg (by decide)).trans ?_)
  unfold State.frameInGap
  dsimp only
  rw [hg.holder]
  change ((s.heardEnd bytes).heardFrom g.source).holdTurn false g = _
  rw [hg.source]

/-! ## Turn ends that say nothing to the transmit engine (R65) -/

theorem nothingOutstanding_turnPasses (h : nothingOutstanding s = true) : nothingOutstanding s.turnPasses = true := by
  simp only [nothingOutstanding, turnPasses_txc] at h ⊢
  exact h

theorem endTurn_calm {way : TurnWay} (hway : way ≠ .silent) (hout : s.turn.counter = s.ownAddr → nothingOutstanding s = true) :
    s.endTurn way = s.turnPasses := by
  by_cases hown : s.turn.counter = s.ownAddr
  · rw [endTurn_own hown, ownTurnEnds_nothing (nothingOutstanding_turnPasses (hout hown))]
  · exact endTurn_other hown hway

theorem turnEnd_calm {way : TurnWay} (hway : way ≠ .silent) (hst : s.station = .online)
    (hnext : s.turn.counter + 1 ≠ s.ownAddr) (hout : s.turn.counter = s.ownAddr → nothingOutstanding s = true) :
    s.turnEnd way = s.turnPasses := by
  rw [turnEnd_online hst hnext, endTurn_calm hway hout]

/-- The turn controller once a PASS or DATA of its counter has opened its turn (R60 to R63). -/
def TurnControl.opened (c : TurnControl) (g : Frame) : TurnControl :=
  match g with
  | .pass _ => turnAfter c
  | _ => { c with timer := .responseWindow }

/-- A PASS ends the turn it opens, which counts for patience; a DATA opens its response window. -/
theorem openTurn_calm {g : Frame} {b : Station} (hg : OpensTurn g b) (hst : s.station = .online) (hcounter : s.turn.counter = b)
    (hnext : g = .pass b → b + 1 ≠ s.ownAddr) (hout : b = s.ownAddr → nothingOutstanding s = true)
    (hlasts : g = .pass b → patienceLasts s b = true) :
    s.openTurn g = { s with turn := s.turn.opened g, rx := (s.openTurn g).rx }
    ∧ ∀ n, (s.openTurn g).rxc n = if g = .pass b then afterTurnOf b (s.rxc n) else s.rxc n := by
  obtain rfl | ⟨f, rfl, -⟩ := hg
  · have hend : s.openTurn (.pass b) = s.turnPasses :=
      turnEnd_calm (by decide) hst (by rw [hcounter]; exact hnext rfl) (by rw [hcounter]; exact hout)
    obtain ⟨hframe, hrxc⟩ := turnPasses_lasts (s := s) (by rw [hcounter]; exact hlasts rfl)
    rw [hend]
    refine ⟨hframe, fun n => ?_⟩
    rw [hrxc, if_pos rfl, hcounter]
  · refine ⟨rfl, fun n => ?_⟩
    rw [if_neg (by nofun)]
    rfl

theorem patienceLasts_of_rx {a : Station} (hrx : t.rx = s.rx) (h : patienceLasts s a = true) : patienceLasts t a = true := by
  have hrxc : ∀ n, t.rxc n = s.rxc n := fun n => congrArg (look · n) hrx
  simp only [patienceLasts, hrxc] at h ⊢
  exact h

/-- A station heard has nothing newly outstanding. -/
theorem nothingOutstanding_heard {a : Station} (hheard : SourceHeard a s t) (h : nothingOutstanding s = true) :
    nothingOutstanding t = true := by
  obtain ⟨-, -, htxc⟩ := hheard
  rw [nothingOutstanding, allChans_all_iff] at h ⊢
  intro n
  rw [htxc, afterHeard_outstanding]
  exact h n

/-- Settles O26: in turn the frame's source is heard and its turn opened; the own turn is not next. -/
theorem heardFrameOpensItsTurn : Obligations.HeardFrameOpensItsTurn := by
  intro bytes s a hhear ha hother
  obtain ⟨hst, -, -⟩ := onlineHearing_iff.mp hhear
  obtain ⟨hframe, hroster, htxc⟩ := heardFrom_spec (s.heardEnd bytes) a
  refine ⟨fun hdecode hnext hlasts => ?pass, fun f hdecode hsource hdest => ?data⟩
  case pass =>
    rw [exec_frameEnd_gap hhear hdecode (.inl rfl)]
    generalize (s.heardEnd bytes).heardFrom a = v at *
    have hcounter : v.turn.counter = a := by rw [hframe, ha]; rfl
    have hown : v.ownAddr = s.ownAddr := by rw [hframe]; rfl
    rw [holdTurn_inTurn (g := .pass a) hcounter.symm]
    obtain ⟨hopen, hrxc⟩ := openTurn_calm (s := v) (g := .pass a) (.inl rfl) (by rw [hframe]; exact hst) hcounter
      (by rw [hown]; exact fun _ => hnext) (by rw [hown]; exact fun h => absurd h hother)
      fun _ => patienceLasts_of_rx (by rw [hframe]; rfl) hlasts
    change ∃ t, Host.Outcome.next (v.openTurn (.pass a)) = .next t ∧ _
    generalize v.openTurn (.pass a) = w at *
    refine ⟨_, rfl, ?_, fun b => ?_, fun n => ?_, fun n => ?_⟩
    · rw [hopen, hframe]
      rfl
    · rw [hopen]
      exact hroster b
    · rw [hopen]
      exact htxc n
    · rw [hrxc, if_pos rfl, hframe]
      rfl
  case data =>
    rw [exec_frameEnd_gap hhear hdecode (.inr ⟨f, rfl, hsource⟩)]
    generalize (s.heardEnd bytes).heardFrom a = v at *
    have hcounter : v.turn.counter = a := by rw [hframe, ha]; rfl
    rw [holdTurn_inTurn (g := .data f) (hsource.trans hcounter.symm)]
    have hown : v.ownAddr = s.ownAddr := by rw [hframe]; rfl
    have hengine : (v.openTurn (.data f)).frameToEngines (some (.data f)) = v.withTimer .responseWindow :=
      heardData_elsewhere (s := v.withTimer .responseWindow) (.inl fun hd => hdest (hd.trans hown))
    rw [hengine]
    refine ⟨_, rfl, ?_, hroster, htxc⟩
    rw [hframe]
    rfl

end Sys2Proof.Machine
end

section
/-! PROOFS. Slips and adoption: a PASS or DATA out of turn, in a window, or heard while LISTENING (R63 to R68, R71, R73, R80,
R81, R90, R104). -/

namespace Sys2Proof.Machine

open Sys2Proof.Safety

variable {s t : State} {bytes : List Byte}

/-! ## Slips (R66, R68) -/

/-- The turn controller after a slip (R66, R68). -/
def TurnControl.slipped (c : TurnControl) (b : Station) : TurnControl :=
  { c with counter := b, ownTurn := false, quiet := if c.ownTurn then c.quiet - 1 else c.quiet }

theorem slipTo_eq (s : State) (b : Station) :
    s.slipTo b = { s with
      turn := s.turn.slipped b, counters := { s.counters with slips := min (s.counters.slips + 1) 65535 },
      events := { s.events with slip := true } } := by
  rw [← countUp_eq]
  rfl

/-- A slip and the turn it opens, when the own turn is not next and no patience runs out. -/
theorem slipOpen {g : Frame} {b : Station} (hg : OpensTurn g b) (hst : s.station = .online)
    (hnext : g = .pass b → b + 1 ≠ s.ownAddr) (hout : b = s.ownAddr → nothingOutstanding s = true)
    (hlasts : g = .pass b → patienceLasts s b = true) :
    (s.slipTo b).openTurn g = { s with
      turn := (s.turn.slipped b).opened g, rx := ((s.slipTo b).openTurn g).rx,
      counters := { s.counters with slips := min (s.counters.slips + 1) 65535 }, events := { s.events with slip := true } }
    ∧ ∀ n, ((s.slipTo b).openTurn g).rxc n = if g = .pass b then afterTurnOf b (s.rxc n) else s.rxc n := by
  obtain ⟨hframe, hrxc⟩ := openTurn_calm (s := s.slipTo b) hg hst rfl hnext hout hlasts
  refine ⟨hframe.trans ?_, hrxc⟩
  generalize ((s.slipTo b).openTurn g).rx = rx
  rw [slipTo_eq]

/-- The turn ended by the answer, and the own turn that the advance reached is marked. -/
theorem markOwnTurn_online (hst : s.station = .online) :
    s.markOwnTurn = { s with turn := { s.turn with ownTurn := if s.turn.counter = s.ownAddr then true else s.turn.ownTurn } } := by
  unfold State.markOwnTurn
  by_cases hown : s.turn.counter = s.ownAddr
  · rw [if_pos (State.atOwnTurn_iff.mpr ⟨hst, hown⟩), if_pos hown]
  · rw [if_neg (fun h => hown (State.atOwnTurn_iff.mp h).2), if_neg hown]

/-- FRAME_END with a PASS or DATA in a window: the window's turn ends, then the frame slips (R63, R64). -/
theorem exec_frameEnd_window {g : Frame} {b : Station} (hst : s.station = .online ∨ s.station = .leaving)
    (hline : s.line = .receiving { began := .window, counted := true, remainder := false }) (hrequest : s.request = none)
    (hdecode : decodeFrame bytes = some g) (hg : OpensTurn g b) :
    exec (.frameEnd bytes) s = .next (((((((s.heardEnd bytes).endTurn (.byAnswer (some g))).markOwnTurn.heardFrom b).slipTo
      b).openTurn g).leaveAfter s.turn.counter).frameToEngines (some g)) := by
  rw [exec_frameEnd hline hrequest hdecode fun r hr => absurd hr (hg.not_reply r)]
  refine congrArg (fun u => Host.Outcome.next (State.frameToEngines u (some g))) ?_
  refine (frameToTurns_inTurns (s := s.heardEnd bytes) hst _ _).trans ((if_pos rfl).trans ?_)
  unfold State.frameInWindow
  dsimp only
  rw [hg.holder]
  change State.leaveAfter ((State.heardFrom _ g.source).holdTurn true g) _ = _
  rw [holdTurn_slips (.inr rfl), hg.source]
  rfl

theorem afterTurnOf_source {a : Station} (c : RxChan) : (afterTurnOf a c).source = c.source ∧ (afterTurnOf a c).state = c.state
    ∧ (afterTurnOf a c).defn = c.defn := by
  unfold afterTurnOf
  split
  · split <;> exact ⟨rfl, rfl, rfl⟩
  · exact ⟨rfl, rfl, rfl⟩

/-- The patience of a source lasts after the turn of another station, or of one that is the source of nothing. -/
theorem patienceLasts_afterTurn {a b : Station} (hrxc : ∀ n, t.rxc n = afterTurnOf a (s.rxc n))
    (h : if b = a then nothingFrom s b = true else patienceLasts s b = true) : patienceLasts t b = true := by
  have hsame : ∀ n, (s.rxc n).busyFrom b = false ∨ afterTurnOf a (s.rxc n) = s.rxc n := fun n => by
    by_cases hba : b = a
    · rw [if_pos hba] at h
      exact .inl (nothingFrom_iff.mp h n)
    · cases hbusy : (s.rxc n).busyFrom b with
      | false => exact .inl rfl
      | true =>
        refine .inr (afterTurnOf_other ?_)
        rw [RxChan.busyFrom, Bool.and_eq_true, beq_iff_eq] at hbusy
        simp [RxChan.busyFrom, hbusy.2, hba]
  have hlasts : patienceLasts s b = true := by
    by_cases hba : b = a
    · rw [if_pos hba] at h
      exact patienceLasts_of_nothingFrom h
    · rwa [if_neg hba] at h
  rw [patienceLasts, allChans_all_iff] at hlasts ⊢
  intro n
  obtain hfree | hkept := hsame n
  · obtain ⟨hsource, hstate, -⟩ := afterTurnOf_source (a := a) (s.rxc n)
    have hfree' : (t.rxc n).busyFrom b = false := by
      rw [hrxc, RxChan.busyFrom, RxChan.busy, hstate, hsource]
      exact hfree
    rw [hfree']
    rfl
  · rw [hrxc, hkept]
    exact hlasts n

/-- A frame that slips: the receive engine is not asked, since a DATA among these is for another station. -/
theorem frameToEngines_elsewhere {g : Frame} {b : Station}
    (hg : g = .pass b ∨ ∃ f, g = .data f ∧ f.source = b ∧ f.destination ≠ s.ownAddr) (hown : t.ownAddr = s.ownAddr) :
    t.frameToEngines (some g) = t := by
  obtain rfl | ⟨f, rfl, -, hdest⟩ := hg
  · rfl
  · exact heardData_elsewhere (.inl fun hd => hdest (hd.trans hown))

/-- Settles O28: in the gap the frame's source is heard and slipped to; in a window the window's turn ends first. -/
theorem passOutOfTurnSlips : Obligations.PassOutOfTurnSlips := by
  intro bytes s g b hrequest hdecode hcase hnext hout slipped opened left
  have hg : OpensTurn g b := hcase.imp id fun ⟨f, hf, hsource, _⟩ => ⟨f, hf, hsource⟩
  have hturn : ∀ c : TurnControl, (c.slipped b).opened g =
      { slipped c with quiet := if c.ownTurn then c.quiet - 1 else c.quiet } := fun c => by
    obtain rfl | ⟨f, rfl, -⟩ := hg
    · simp only [slipped, if_true]
      rfl
    · simp only [slipped, reduceCtorEq, if_false]
      rfl
  refine ⟨fun hhear hother hlasts => ?gap, fun hhear hlastsOwner houtOwner hlasts => ?window⟩
  case gap =>
    obtain ⟨hst, -, -⟩ := onlineHearing_iff.mp hhear
    have hheard := heardFrom_spec (s.heardEnd bytes) b
    rw [exec_frameEnd_gap hhear hdecode hg]
    have houtHeard := fun hb : b = s.ownAddr => nothingOutstanding_heard hheard (hout hb)
    obtain ⟨hframe, hroster, htxc⟩ := hheard
    generalize (s.heardEnd bytes).heardFrom b = v at *
    have hown : v.ownAddr = s.ownAddr := by rw [hframe]; rfl
    have hcounter : v.turn.counter = s.turn.counter := by rw [hframe]; rfl
    rw [holdTurn_slips (.inl (by rw [hg.source, hcounter]; exact hother)), hg.source]
    obtain ⟨hopen, hrxc⟩ := slipOpen (s := v) hg (by rw [hframe]; exact hst) (by rw [hown]; exact hnext)
      (by rw [hown]; exact houtHeard) fun hpass => patienceLasts_of_rx (by rw [hframe]; rfl) (hlasts hpass)
    generalize (v.slipTo b).openTurn g = w at *
    rw [frameToEngines_elsewhere hcase (by rw [hopen]; exact hown)]
    refine ⟨_, rfl, ⟨?_, fun c => ?_, fun n => ?_⟩, fun n => ?_⟩
    · rw [hopen, hturn, hframe]
      rfl
    · rw [hopen]
      exact hroster c
    · rw [hopen]
      exact htxc n
    · rw [hrxc, hframe]
      rfl
  case window =>
    intro quiet
    obtain ⟨hst, hline, -⟩ := onlineHearing_iff.mp hhear
    rw [exec_frameEnd_window (.inl hst) hline hrequest hdecode hg,
      endTurn_calm (s := s.heardEnd bytes) (by simp) houtOwner]
    obtain ⟨hpass, hpassRx⟩ := turnPasses_lasts (s := s.heardEnd bytes) hlastsOwner
    have houtPass := fun hb : b = s.ownAddr => nothingOutstanding_turnPasses (s := s.heardEnd bytes) (hout hb)
    generalize (s.heardEnd bytes).turnPasses = p at *
    rw [markOwnTurn_online (by rw [hpass]; exact hst)]
    have hheard := heardFrom_spec
      { p with turn := { p.turn with ownTurn := if p.turn.counter = p.ownAddr then true else p.turn.ownTurn } } b
    have houtHeard := fun hb : b = s.ownAddr => nothingOutstanding_heard hheard (houtPass hb)
    obtain ⟨hframe, hroster, htxc⟩ := hheard
    generalize State.heardFrom _ b = v at *
    have hown : v.ownAddr = s.ownAddr := by rw [hframe, hpass]; rfl
    have hrx : ∀ n, v.rxc n = afterTurnOf s.turn.counter (s.rxc n) := fun n => by
      rw [hframe]
      exact hpassRx n
    have hvst : v.station = .online := by rw [hframe, hpass]; exact hst
    obtain ⟨hopen, hrxc⟩ := slipOpen (s := v) hg hvst (by rw [hown]; exact hnext) (by rw [hown]; exact houtHeard)
      fun hpass => patienceLasts_afterTurn hrx (hlasts hpass)
    generalize (v.slipTo b).openTurn g = w at *
    rw [leaveAfter_online (by rw [hopen]; exact hvst), frameToEngines_elsewhere hcase (by rw [hopen]; exact hown)]
    have hquiet : (v.turn.slipped b).opened g =
        { slipped s.turn with quiet := if s.turn.counter + 1 = s.ownAddr then quiet - 1 else quiet } := by
      rw [hturn, hframe, hpass]
      change { slipped s.turn with
        quiet := if (if s.turn.counter + 1 = s.ownAddr then true else false) = true then quiet - 1 else quiet } = _
      by_cases hreach : s.turn.counter + 1 = s.ownAddr
      · simp [hreach]
      · simp [hreach]
    refine ⟨_, rfl, ⟨?_, fun c => ?_, fun n => ?_⟩, fun n => ?_⟩
    · rw [hopen, hquiet, hframe, hpass]
      rfl
    · rw [hopen]
      refine (hroster c).trans ?_
      rw [hpass]
      rfl
    · rw [hopen]
      refine (htxc n).trans ?_
      rw [hpass]
      rfl
    · rw [hrxc, hrx]

end Sys2Proof.Machine
end

section
/-! PROOFS. The start of the own turn at the transmit engine: the absence counts, then the scan of the schedule (R9, R16, R31,
R86 to R89, R103). -/

namespace Sys2Proof.Machine

open Sys2Proof.Safety

variable {s t u : State} {n : ChanId} {df : TxDef} {h : DescId} {ms rest : List DescId}

/-! ## Which channels count absence, and which the scan passes over -/

theorem countsAbsent_congr (htxc : t.txc n = s.txc n) (hroster : t.roster = s.roster)
    (hqueue : ∀ df, (s.txc n).defn = some df → t.queue df.submit = s.queue df.submit) :
    countsAbsent t n = countsAbsent s n := by
  unfold countsAbsent
  rw [htxc]
  cases hd : (s.txc n).defn with
  | none => rfl
  | some df =>
    have hentry : t.rosterOf df.station = s.rosterOf df.station := congrArg (look · df.station) hroster
    dsimp only
    rw [hqueue df hd, hentry]

theorem absenceRaised_congr (htxc : t.txc n = s.txc n) (hroster : t.roster = s.roster)
    (hqueue : ∀ df, (s.txc n).defn = some df → t.queue df.submit = s.queue df.submit) :
    absenceRaised t n = absenceRaised s n := by
  unfold absenceRaised
  rw [countsAbsent_congr htxc hroster hqueue, htxc]

theorem passedOver_congr (hdefn : (t.txc n).defn = (s.txc n).defn) (hstate : (t.txc n).state = (s.txc n).state)
    (hroster : t.roster = s.roster) (hqueue : ∀ df, (s.txc n).defn = some df → t.queue df.submit = s.queue df.submit) :
    passedOver t n = passedOver s n := by
  unfold passedOver
  rw [hdefn]
  cases hd : (s.txc n).defn with
  | none => rfl
  | some df =>
    have hentry : t.rosterOf df.station = s.rosterOf df.station := congrArg (look · df.station) hroster
    dsimp only
    rw [hqueue df hd, hentry, hstate]

/-- A channel passed over stays so when its submit queue has become empty. -/
theorem passedOver_kept (hdefn : (t.txc n).defn = (s.txc n).defn) (hstate : (t.txc n).state = (s.txc n).state)
    (hroster : t.roster = s.roster)
    (hqueue : ∀ df, (s.txc n).defn = some df → t.queue df.submit = s.queue df.submit ∨ t.queue df.submit = [])
    (hover : passedOver s n = true) : passedOver t n = true := by
  unfold passedOver at hover ⊢
  rw [hdefn]
  cases hd : (s.txc n).defn with
  | none => rfl
  | some df =>
    have hentry : t.rosterOf df.station = s.rosterOf df.station := congrArg (look · df.station) hroster
    rw [hd] at hover
    dsimp only at hover ⊢
    rw [hentry, hstate]
    obtain hsame | hempty := hqueue df hd
    · rw [hsame]
      exact hover
    · rw [hempty]
      simp only [Bool.or_eq_true, Bool.and_eq_true] at hover ⊢
      exact hover.imp_right fun ⟨hactive, _⟩ => ⟨hactive, .inr rfl⟩

theorem eligible_eq (s : State) (n : ChanId) : s.eligible n = !passedOver s n := by
  unfold State.eligible passedOver State.isAbsent
  cases (s.txc n).defn with
  | none => rfl
  | some df => simp only [bne, Bool.not_or, Bool.not_and, Bool.not_not]

theorem absenceRaised_same (s : State) (n : ChanId) :
    (absenceRaised s n).defn = (s.txc n).defn ∧ (absenceRaised s n).state = (s.txc n).state := by
  unfold absenceRaised
  split
  · exact ⟨rfl, rfl⟩
  · exact ⟨rfl, rfl⟩

theorem countsAbsent_absent (hd : (s.txc n).defn = some df) (hcounts : countsAbsent s n = true) :
    (s.rosterOf df.station).state = .absent := by
  rw [countsAbsent, hd] at hcounts
  simp only [Bool.and_eq_true, beq_iff_eq] at hcounts
  exact hcounts.1.2

theorem absenceRaised_present (hd : (s.txc n).defn = some df) (hpresent : (s.rosterOf df.station).state ≠ .absent) :
    absenceRaised s n = s.txc n := if_neg fun hcounts => hpresent (countsAbsent_absent hd hcounts)

/-! ## The absence counts (R103) -/

theorem advanceAbsence_below (hbelow : countsAbsent s n = true → (s.txc n).absence + 1 < 4) :
    s.advanceAbsence n = s.setTx n (absenceRaised s n) := by
  unfold State.advanceAbsence absenceRaised
  cases hd : (s.txc n).defn with
  | none => rw [countsAbsent, hd, if_neg Bool.false_ne_true, setTx_self]
  | some df =>
    have hcount : countsAbsent s n = s.countsAbsence n df := by rw [countsAbsent, hd]; rfl
    dsimp only
    by_cases hcounts : countsAbsent s n = true
    · have hlow : ¬ Config.absenceLimit ≤ (s.txc n).absence + 1 := Nat.not_le.mpr (hbelow hcounts)
      rw [if_pos (hcount ▸ hcounts), if_pos hcounts, setTx_txc_self, if_neg hlow]
    · rw [if_neg (hcount ▸ hcounts), if_neg hcounts, setTx_self]

theorem advanceAbsences_below {l : List ChanId} (hl : l.Nodup)
    (hbelow : ∀ m ∈ l, countsAbsent s m = true → (s.txc m).absence + 1 < 4) :
    l.foldl State.advanceAbsence s = { s with tx := (l.foldl State.advanceAbsence s).tx }
    ∧ ∀ m, (l.foldl State.advanceAbsence s).txc m = if m ∈ l then absenceRaised s m else s.txc m := by
  induction l generalizing s with
  | nil => exact ⟨rfl, fun m => rfl⟩
  | cons n l ih =>
    obtain ⟨hn, hl⟩ := List.nodup_cons.mp hl
    have hstep := advanceAbsence_below (hbelow n List.mem_cons_self)
    have hother : ∀ m ∈ l, (s.setTx n (absenceRaised s n)).txc m = s.txc m := fun m hm =>
      setTx_txc_other _ _ fun heq => hn (heq ▸ hm)
    obtain ⟨hframe, htxc⟩ := ih (s := s.setTx n (absenceRaised s n)) hl fun m hm hcounts => by
      rw [countsAbsent_congr (hother m hm) rfl fun _ _ => rfl] at hcounts
      rw [hother m hm]
      exact hbelow m (List.mem_cons_of_mem n hm) hcounts
    rw [List.foldl_cons, hstep]
    refine ⟨hframe, fun m => (htxc m).trans ?_⟩
    by_cases hm : m ∈ l
    · rw [if_pos hm, if_pos (List.mem_cons_of_mem n hm), absenceRaised_congr (hother m hm) rfl fun _ _ => rfl]
    · rw [if_neg hm, setTx_txc]
      by_cases hmn : m = n
      · rw [if_pos hmn, hmn, if_pos List.mem_cons_self]
      · rw [if_neg hmn, if_neg (by simp [hmn, hm])]

theorem advanceAbsences_all (hbelow : ∀ m, countsAbsent s m = true → (s.txc m).absence + 1 < 4) :
    allChans.foldl State.advanceAbsence s = { s with tx := (allChans.foldl State.advanceAbsence s).tx }
    ∧ ∀ m, (allChans.foldl State.advanceAbsence s).txc m = absenceRaised s m := by
  obtain ⟨hframe, htxc⟩ := advanceAbsences_below allChans_nodup fun m _ => hbelow m
  exact ⟨hframe, fun m => (htxc m).trans (if_pos (mem_allChans m))⟩

/-- The absence counts when one channel reaches the limit and hands a message back: what it does there (`hlimit`), and the counts
of the others. -/
theorem advanceAbsences_limit {c : TxChan} {queue : QueueId → List DescId} {desc : DescId → Desc}
    (hlimit : ∀ w : State, w = { s with tx := w.tx } → w.txc n = s.txc n →
      w.advanceAbsence n = { w with tx := (w.advanceAbsence n).tx, descs := (w.advanceAbsence n).descs,
                                    queues := (w.advanceAbsence n).queues }
      ∧ (∀ m, (w.advanceAbsence n).txc m = if m = n then c else w.txc m)
      ∧ (∀ q, (w.advanceAbsence n).queue q = queue q) ∧ ∀ e, (w.advanceAbsence n).desc e = desc e)
    (hqueue : ∀ m b, m ≠ n → (s.txc m).defn = some b → queue b.submit = s.queue b.submit)
    (hbelow : ∀ m, m ≠ n → countsAbsent s m = true → (s.txc m).absence + 1 < 4) :
    allChans.foldl State.advanceAbsence s = { s with
      tx := (allChans.foldl State.advanceAbsence s).tx, descs := (allChans.foldl State.advanceAbsence s).descs,
      queues := (allChans.foldl State.advanceAbsence s).queues }
    ∧ (∀ m, (allChans.foldl State.advanceAbsence s).txc m = if m = n then c else absenceRaised s m)
    ∧ (∀ q, (allChans.foldl State.advanceAbsence s).queue q = queue q)
    ∧ ∀ e, (allChans.foldl State.advanceAbsence s).desc e = desc e := by
  obtain ⟨l, l', hsplit⟩ := List.append_of_mem (mem_allChans n)
  have hnodup : (l ++ n :: l').Nodup := hsplit ▸ allChans_nodup
  obtain ⟨hl, hnl', hdisjoint⟩ := List.nodup_append'.mp hnodup
  obtain ⟨hn', hl'⟩ := List.nodup_cons.mp hnl'
  have hn : n ∉ l := fun hmem => hdisjoint hmem List.mem_cons_self
  have hall : ∀ m, m ∈ l ∨ m = n ∨ m ∈ l' := fun m => by
    have hm := hsplit ▸ mem_allChans m
    simpa using hm
  rw [hsplit, List.foldl_append, List.foldl_cons]
  obtain ⟨hframe, htxc⟩ := advanceAbsences_below hl fun m hm => hbelow m fun heq => hn (heq ▸ hm)
  generalize l.foldl State.advanceAbsence s = w at *
  obtain ⟨hvframe, hvtxc, hvqueue, hvdesc⟩ := hlimit w hframe ((htxc n).trans (if_neg hn))
  generalize w.advanceAbsence n = v at *
  have hvOther : ∀ m ∈ l', v.txc m = s.txc m := fun m hm => by
    have hmn : m ≠ n := fun heq => hn' (heq ▸ hm)
    rw [hvtxc, if_neg hmn, htxc, if_neg fun hml => hdisjoint hml (List.mem_cons_of_mem n hm)]
  have hvRoster : v.roster = s.roster := by rw [hvframe, hframe]
  have hvQueue : ∀ m ∈ l', ∀ b, (s.txc m).defn = some b → v.queue b.submit = s.queue b.submit := fun m hm b hb =>
    (hvqueue _).trans (hqueue m b (fun heq => hn' (heq ▸ hm)) hb)
  obtain ⟨hzframe, hztxc⟩ := advanceAbsences_below (s := v) hl' fun m hm hcounts => by
    rw [countsAbsent_congr (hvOther m hm) hvRoster (hvQueue m hm)] at hcounts
    rw [hvOther m hm]
    exact hbelow m (fun heq => hn' (heq ▸ hm)) hcounts
  generalize l'.foldl State.advanceAbsence v = z at *
  refine ⟨?_, fun m => ?_, fun q => ?_, fun e => ?_⟩
  · rw [hzframe, hvframe, hframe]
  · rw [hztxc]
    by_cases hmn : m = n
    · rw [hmn, if_neg hn', if_pos rfl, hvtxc, if_pos rfl]
    · rw [if_neg hmn]
      by_cases hm : m ∈ l'
      · rw [if_pos hm, absenceRaised_congr (hvOther m hm) hvRoster (hvQueue m hm)]
      · have hml : m ∈ l := (hall m).resolve_right fun hor => hor.elim hmn hm
        rw [if_neg hm, hvtxc, if_neg hmn, htxc, if_pos hml]
  · rw [hzframe]
    exact hvqueue q
  · rw [hzframe]
    exact hvdesc e

/-! ## The scan (R86 to R88) -/

theorem scan_none (k e : Nat) (hentry : s.scheduled e = none) : s.scan (k + 1) e = s.scan k (entryAfter s.cfg.length e) := by
  rw [State.scan, hentry]

theorem scan_over (k e : Nat) (hentry : s.scheduled e = some n) (hover : passedOver s n = true) :
    s.scan (k + 1) e = s.scan k (entryAfter s.cfg.length e) := by
  rw [State.scan, hentry]
  exact if_neg (by rw [eligible_eq, hover]; decide)

theorem scan_passed (hall : ∀ m, passedOver s m = true) (k e : Nat) : s.scan k e = (s, none) := by
  induction k generalizing e with
  | zero => rfl
  | succ k ih =>
    cases hentry : s.scheduled e with
    | none => rw [scan_none k e hentry, ih]
    | some m => rw [scan_over k e hentry (hall m), ih]

theorem scheduled_eq {i : Nat} {x : Option ChanId} (hentry : ∃ e : Fin 32, e.val = i ∧ look s.cfg.schedule e = x) :
    s.scheduled i = x := by
  obtain ⟨e, rfl, hx⟩ := hentry
  exact (dif_pos e.isLt).trans hx

theorem entryAfter_mod {len e : Nat} (he : e < len) : entryAfter len e = (e + 1) % len := by
  unfold entryAfter
  by_cases hlast : e + 1 < len
  · rw [if_pos hlast, Nat.mod_eq_of_lt hlast]
  · rw [if_neg hlast, show e + 1 = len by omega, Nat.mod_self]

theorem entryAfter_place (len p : Nat) (hlen : 0 < len) : entryAfter len (p % len) = (p + 1) % len := by
  rw [entryAfter_mod (Nat.mod_lt _ hlen), Nat.mod_add_mod]

/-- The scan goes past `k` entries that are EMPTY or passed over. -/
theorem scan_skips (hlen : 0 < s.cfg.length) (k p K : Nat)
    (hskip : ∀ j, j < k → s.scheduled ((p + j) % s.cfg.length) = none
      ∨ ∃ m, s.scheduled ((p + j) % s.cfg.length) = some m ∧ passedOver s m = true) :
    s.scan (k + K) (p % s.cfg.length) = s.scan K ((p + k) % s.cfg.length) := by
  induction k generalizing p with
  | zero => rw [Nat.zero_add, Nat.add_zero]
  | succ k ih =>
    have hone : s.scan (k + K + 1) (p % s.cfg.length) = s.scan (k + K) ((p + 1) % s.cfg.length) := by
      rw [← entryAfter_place _ _ hlen]
      obtain hnone | ⟨m, hm, hover⟩ := hskip 0 (Nat.succ_pos k)
      · exact scan_none _ _ hnone
      · exact scan_over _ _ hm hover
    rw [Nat.add_right_comm, hone, ih (p + 1) fun j hj => by
      rw [Nat.add_right_comm p 1 j, Nat.add_assoc p j 1]
      exact hskip (j + 1) (Nat.succ_lt_succ hj), Nat.add_right_comm p 1 k, Nat.add_assoc p k 1]

theorem scan_active (k e : Nat) (hentry : s.scheduled e = some n) (hover : passedOver s n = false)
    (hactive : (s.txc n).state = .active) :
    s.scan (k + 1) e = ({ s with cursor := entryAfter s.cfg.length e }, some n) := by
  have heligible : s.eligible n = true := by rw [eligible_eq, hover]; rfl
  rw [State.scan, hentry]
  dsimp only
  rw [if_pos heligible, if_pos hactive, if_pos hactive]

theorem scan_takes (k e : Nat) (hentry : s.scheduled e = some n) (hover : passedOver s n = false)
    (hidle : (s.txc n).state = .idle) :
    s.scan (k + 1) e =
      if ((s.take n).txc n).state = .active then ({ s.take n with cursor := entryAfter (s.take n).cfg.length e }, some n)
      else (s.take n).scan k (entryAfter s.cfg.length e) := by
  have heligible : s.eligible n = true := by rw [eligible_eq, hover]; rfl
  have hnot : ¬ (s.txc n).state = .active := by rw [hidle]; decide
  rw [State.scan, hentry]
  dsimp only
  rw [if_pos heligible, if_neg hnot]

/-! ## The take (R9, R16, R31, R89) -/

theorem shapeOk_iff (s : State) (h : DescId) (ms : List DescId) :
    shapeOk (s.fills (h :: ms)) = true ↔ (∀ d ∈ (h :: ms).dropLast, (s.desc d).fill = 64)
      ∧ ∀ d, (h :: ms).getLast? = some d → (s.desc d).fill ≤ 64 ∧ (ms ≠ [] → 1 ≤ (s.desc d).fill) := by
  obtain rfl | ⟨l, d, rfl⟩ := ms.eq_nil_or_concat'
  · simp only [State.fills, shapeOk, List.map_cons, List.map_nil, decide_eq_true_eq]
    simp [Config.bufferSize]
  · obtain ⟨f, fs, hfills⟩ : ∃ f fs, s.fills (l ++ [d]) = f :: fs := by
      cases l with
      | nil => exact ⟨_, _, rfl⟩
      | cons a l => exact ⟨_, _, rfl⟩
    have hshape : shapeOk (s.fills (h :: (l ++ [d]))) =
        ((s.fills (h :: (l ++ [d]))).dropLast.all (fun f => f == Config.bufferSize)
          && decide (1 ≤ (s.fills (h :: (l ++ [d]))).getLastD 0)
          && decide ((s.fills (h :: (l ++ [d]))).getLastD 0 ≤ Config.bufferSize)) := by
      have hcons : s.fills (h :: (l ++ [d])) = (s.desc h).fill :: f :: fs := congrArg (_ :: ·) hfills
      rw [hcons]
      rfl
    have hparts : s.fills (h :: (l ++ [d])) = s.fills (h :: l) ++ [(s.desc d).fill] := List.map_append (l₁ := h :: l)
    have hlist : h :: (l ++ [d]) = (h :: l) ++ [d] := rfl
    rw [hshape, hparts, hlist, List.dropLast_concat, List.dropLast_concat, List.getLast?_concat, List.getLastD_concat]
    simp only [State.fills, List.all_map, Bool.and_eq_true, List.all_eq_true, Function.comp_apply, beq_iff_eq,
      decide_eq_true_eq, Option.some.injEq, forall_eq', and_assoc, ne_eq, List.append_eq_nil_iff,
      List.cons_ne_nil, and_false, not_false_eq_true, true_imp_iff]
    exact and_congr_right fun _ => and_comm

end Sys2Proof.Machine
end

section
/-! PROOFS. What an own turn start sends: a PASS, the current segment, or the first segment of a message taken; what it hands
back on the way (R9, R16, R31, R85 to R92, R99, R103). -/

namespace Sys2Proof.Machine

open Sys2Proof.Safety

variable {s t u v : State} {n : ChanId} {df : TxDef} {h : DescId} {ms rest : List DescId}

/-! ## A take from a submit queue (R9, R31, R89) -/

/-- The context of a channel that has just taken a message. -/
def TxChan.taken (c : TxChan) (h : DescId) : TxChan :=
  { c with msg := some h, cur := some h, attempts := 0, laters := 0, doubt := false, state := .active }

section
variable (hd : (s.txc n).defn = some df) (hqueue : s.queue df.submit = h :: rest) (hchain : isChain s (h :: ms) = true)
include hd hqueue hchain

theorem take_wellShaped (hshape : shapeOk (s.fills (h :: ms)) = true) :
    s.take n =
      ((s.setQueue df.submit rest).setOwners (h :: ms) (.transit n)).setTx n ((s.txc n).taken h) := by
  have htxc : ((s.setQueue df.submit rest).setOwners (h :: ms) (.transit n)).txc n = s.txc n := by
    rw [setOwners_frame]
    rfl
  unfold State.take
  rw [hd]
  dsimp only
  rw [hqueue]
  dsimp only
  rw [chain_of_isChain s hchain, if_pos hshape, htxc]
  rfl

theorem take_malformed (hshape : shapeOk (s.fills (h :: ms)) = false) :
    s.take n = ((s.setQueue df.submit rest).handBack h .malformed df.station n).raise .malformed := by
  unfold State.take
  rw [hd]
  dsimp only
  rw [hqueue]
  dsimp only
  rw [chain_of_isChain s hchain, hshape, if_neg Bool.false_ne_true, State.handBackOldest, hqueue]

end

/-! ## The frame requested (R90 to R92) -/

/-- The DATA frame of the segment `d` of the message `h` of TXn (R91). -/
def State.segmentFrame (s : State) (n : ChanId) (df : TxDef) (h d : DescId) : DataFrame :=
  { source := s.ownAddr, destination := df.station, channel := df.channel, tally := (s.txc n).tally,
    label := if d = h then some (s.desc h).label else none, last := (s.desc d).next.isNone,
    payload := (List.range (s.desc d).fill).map fun j => s.mem.read (64 * d.val + j) }

/-- The context of a channel whose segment is requested (R92). -/
def TxChan.sent (c : TxChan) : TxChan := { c with outstanding := true, attempts := c.attempts + 1 }

theorem requestData_eq {d : DescId} (hd : (s.txc n).defn = some df) (hm : (s.txc n).msg = some h)
    (hcur : (s.txc n).cur = some d) :
    s.requestData n = { s.setTx n (s.txc n).sent with request := some (.data (s.segmentFrame n df h d)) } := by
  have hframe : s.dataFrame n = some (s.segmentFrame n df h d) := by
    unfold State.dataFrame
    rw [hd, hm, hcur]
    rfl
  unfold State.requestData
  rw [hframe]
  rfl

/-- The chosen channel's segment is requested and the cursor goes on (R88, R92). -/
theorem requestChosen_eq {d : DescId} (c : Nat) (hd : (s.txc n).defn = some df) (hm : (s.txc n).msg = some h)
    (hcur : (s.txc n).cur = some d) :
    State.requestChosen ({ s with cursor := c }, some n) =
      { s.setTx n (s.txc n).sent with cursor := c, request := some (.data (s.segmentFrame n df h d)) } :=
  requestData_eq (s := { s with cursor := c }) hd hm hcur

/-! ## The start as a whole (R87) -/

theorem ownTurnStarts_eq (hv : allChans.foldl State.advanceAbsence u = v) :
    u.ownTurnStarts = State.requestChosen (v.scan v.cfg.length v.cursor) := by
  rw [← hv]
  rfl

theorem ownTurnStarts_passed (hv : allChans.foldl State.advanceAbsence u = v) (hpassed : ∀ m, passedOver v m = true) :
    u.ownTurnStarts = v.requestPass := by
  rw [ownTurnStarts_eq hv, scan_passed hpassed]
  rfl

theorem passedOver_raised (hframe : v = { u with tx := v.tx }) (htxc : ∀ m, v.txc m = absenceRaised u m) (m : ChanId) :
    passedOver v m = passedOver u m := by
  obtain ⟨hdefn, hstate⟩ := absenceRaised_same u m
  exact passedOver_congr (by rw [htxc, hdefn]) (by rw [htxc, hstate]) (by rw [hframe]) fun _ _ => by rw [hframe]; rfl

/-- Nothing to send: the own turn is a PASS (R87, R90). -/
theorem ownTurnStarts_pass (hbelow : ∀ m, countsAbsent u m = true → (u.txc m).absence + 1 < 4)
    (hpassed : ∀ m, passedOver u m = true) :
    u.ownTurnStarts = { u with tx := u.ownTurnStarts.tx, request := some (.pass u.ownAddr) }
    ∧ ∀ m, u.ownTurnStarts.txc m = absenceRaised u m := by
  obtain ⟨hframe, htxc⟩ := advanceAbsences_all hbelow
  have hstarts := ownTurnStarts_passed (u := u) rfl fun m => (passedOver_raised hframe htxc m).trans (hpassed m)
  generalize allChans.foldl State.advanceAbsence u = v at *
  rw [hstarts]
  refine ⟨?_, htxc⟩
  rw [hframe]
  rfl

/-- One count reaches the limit: its message is handed back ABSENT, and the own turn is a PASS (R99, R103). -/
theorem ownTurnStarts_absent {c : TxChan} {before : QueueId → List DescId} (hchain : isChain u (h :: ms) = true)
    (hbelow : ∀ m, m ≠ n → countsAbsent u m = true → (u.txc m).absence + 1 < 4) (hpassed : ∀ m, passedOver u m = true)
    (hd : (u.txc n).defn = some df) (hcounts : countsAbsent u n = true)
    (hothers : ∀ m b, m ≠ n → (u.txc m).defn = some b → b.submit ≠ (u.desc h).returnQueue ∧ b.submit ≠ df.submit)
    (hbefore : ∀ q, q ≠ df.submit → before q = u.queue q) (hdefn : c.defn = some df)
    (hlimit : ∀ w : State, w = { u with tx := w.tx } → w.txc n = u.txc n →
      ∃ x : State, x = { w with queues := x.queues } ∧ (∀ q, x.queue q = before q)
        ∧ w.advanceAbsence n = (x.handBack h .absent df.station n).setTx n c) :
    u.ownTurnStarts = { u with tx := u.ownTurnStarts.tx, descs := u.ownTurnStarts.descs, queues := u.ownTurnStarts.queues,
                               request := some (.pass u.ownAddr) }
    ∧ (∀ m, u.ownTurnStarts.txc m = if m = n then c else absenceRaised u m)
    ∧ (∀ q, u.ownTurnStarts.queue q = before q ++ (if q = (u.desc h).returnQueue then [h] else []))
    ∧ ∀ e, u.ownTurnStarts.desc e = messageDesc u df.station n .absent (h :: ms) e := by
  have hback : ∀ w : State, w = { u with tx := w.tx } → w.txc n = u.txc n →
      w.advanceAbsence n = { w with tx := (w.advanceAbsence n).tx, descs := (w.advanceAbsence n).descs,
                                    queues := (w.advanceAbsence n).queues }
      ∧ (∀ m, (w.advanceAbsence n).txc m = if m = n then c else w.txc m)
      ∧ (∀ q, (w.advanceAbsence n).queue q = before q ++ (if q = (u.desc h).returnQueue then [h] else []))
      ∧ ∀ e, (w.advanceAbsence n).desc e = messageDesc u df.station n .absent (h :: ms) e := fun w hw hwn => by
    obtain ⟨x, hx, hxqueue, hstep⟩ := hlimit w hw hwn
    have hxdescs : x.descs = u.descs := by rw [hx, hw]
    have hxdesc : ∀ e, x.desc e = u.desc e := fun e => congrArg (look · e) hxdescs
    obtain ⟨hframe, htxc, hqueue, hdesc⟩ := handBack_setTx_spec (isChain_of_descs hxdescs hchain) .absent df.station n n c
    rw [← hstep] at hframe htxc hqueue hdesc
    refine ⟨hframe.trans (by rw [hx]), fun m => ?_, fun q => ?_, fun e => ?_⟩
    · rw [htxc, hx]
      rfl
    · rw [hqueue, hxqueue, hxdesc]
    · rw [hdesc]
      simp only [messageDesc, hxdesc]
  obtain ⟨hframe, htxc, hqueue, hdesc⟩ := advanceAbsences_limit hback (fun m b hmn hb => by
    obtain ⟨hrq, hsubmit⟩ := hothers m b hmn hb
    rw [if_neg hrq, List.append_nil, hbefore _ hsubmit]) hbelow
  have habsent := countsAbsent_absent hd hcounts
  have hstarts := ownTurnStarts_passed (u := u) rfl fun m => by
    generalize allChans.foldl State.advanceAbsence u = v at *
    by_cases hmn : m = n
    · subst hmn
      have hroster : (v.rosterOf df.station).state = .absent := by rw [hframe]; exact habsent
      rw [passedOver, htxc, if_pos rfl, hdefn]
      simp [hroster]
    · obtain ⟨hrdefn, hrstate⟩ := absenceRaised_same u m
      refine (passedOver_congr ?_ ?_ ?_ fun b hb => ?_).trans (hpassed m)
      · rw [htxc, if_neg hmn, hrdefn]
      · rw [htxc, if_neg hmn, hrstate]
      · rw [hframe]
      · obtain ⟨hrq, hsubmit⟩ := hothers m b hmn hb
        rw [hqueue, if_neg hrq, List.append_nil, hbefore _ hsubmit]
  generalize allChans.foldl State.advanceAbsence u = v at *
  rw [hstarts]
  refine ⟨?_, htxc, hqueue, hdesc⟩
  rw [hframe]
  rfl

/-! ## The channel that the scan chooses -/

/-- Entry `j` places on from the cursor holds `x` (R86, R88). -/
def EntryIs (u : State) (j : Nat) (x : Option ChanId) : Prop :=
  ∃ e : Fin 32, e.val = (u.cursor + j) % u.cfg.length ∧ look u.cfg.schedule e = x

section
variable {k : Nat} (hcursor : u.cursor < u.cfg.length) (hk : k < u.cfg.length)
  (hbelow : ∀ m, countsAbsent u m = true → (u.txc m).absence + 1 < 4) (hentry : EntryIs u k (some n))
  (hd : (u.txc n).defn = some df) (hpresent : (u.rosterOf df.station).state ≠ .absent)
include hcursor hk hbelow hentry hd hpresent

/-- The start comes to the scan from the chosen entry on, in a state that differs in the absence counts of others. -/
theorem ownTurnStarts_chosen
    (hskip : ∀ j, j < k → EntryIs u j none ∨ ∃ m, EntryIs u j (some m) ∧ passedOver u m = true) :
    ∃ v : State, v = { u with tx := v.tx } ∧ (∀ m, v.txc m = absenceRaised u m) ∧ v.txc n = u.txc n
      ∧ v.scheduled ((u.cursor + k) % u.cfg.length) = some n
      ∧ u.ownTurnStarts = State.requestChosen (v.scan (u.cfg.length - k - 1 + 1) ((u.cursor + k) % u.cfg.length)) := by
  obtain ⟨hframe, htxc⟩ := advanceAbsences_all hbelow
  have hstarts := ownTurnStarts_eq (u := u) rfl
  generalize allChans.foldl State.advanceAbsence u = v at *
  have hcfg : v.cfg = u.cfg := by rw [hframe]
  have hvcursor : v.cursor = u.cursor := by rw [hframe]
  have hplace : ∀ j x, EntryIs u j x → v.scheduled ((u.cursor + j) % u.cfg.length) = x := fun j x hx =>
    scheduled_eq (by rw [hcfg]; exact hx)
  refine ⟨v, hframe, htxc, ?_, hplace k _ hentry, ?_⟩
  · rw [htxc, absenceRaised_present hd hpresent]
  · have hscan := scan_skips (s := v) (by rw [hcfg]; omega) k u.cursor (u.cfg.length - k - 1 + 1) fun j hj => by
      rw [hcfg]
      obtain hnone | ⟨m, hm, hover⟩ := hskip j hj
      · exact .inl (hplace j _ hnone)
      · exact .inr ⟨m, hplace j _ hm, (passedOver_raised hframe htxc m).trans hover⟩
    rw [hcfg, Nat.mod_eq_of_lt hcursor, show k + (u.cfg.length - k - 1 + 1) = u.cfg.length by omega] at hscan
    rw [hstarts, hcfg, hvcursor, hscan]

/-- An ACTIVE channel's current segment is sent (R88 to R92). -/
theorem ownTurnStarts_active {d : DescId}
    (hskip : ∀ j, j < k → EntryIs u j none ∨ ∃ m, EntryIs u j (some m) ∧ passedOver u m = true)
    (hactive : (u.txc n).state = .active) (hm : (u.txc n).msg = some h) (hcur : (u.txc n).cur = some d) :
    u.ownTurnStarts = { u with tx := u.ownTurnStarts.tx, cursor := (u.cursor + k + 1) % u.cfg.length,
                               request := some (.data (u.segmentFrame n df h d)) }
    ∧ ∀ m, u.ownTurnStarts.txc m = if m = n then (u.txc n).sent else absenceRaised u m := by
  obtain ⟨v, hframe, htxc, hvn, hplace, hstarts⟩ := ownTurnStarts_chosen hcursor hk hbelow hentry hd hpresent hskip
  have hcfg : v.cfg = u.cfg := by rw [hframe]
  have hover : passedOver v n = false := by
    have hroster : v.rosterOf df.station = u.rosterOf df.station := by rw [hframe]; rfl
    simp [passedOver, hvn, hd, hroster, hpresent, hactive]
  have hnext : entryAfter v.cfg.length ((u.cursor + k) % u.cfg.length) = (u.cursor + k + 1) % u.cfg.length := by
    rw [hcfg, entryAfter_place _ _ (by omega)]
  rw [scan_active _ _ hplace hover (by rw [hvn]; exact hactive), hnext,
    requestChosen_eq _ (by rw [hvn]; exact hd) (by rw [hvn]; exact hm) (by rw [hvn]; exact hcur)] at hstarts
  have hsegment : v.segmentFrame n df h d = u.segmentFrame n df h d := by
    rw [State.segmentFrame, hvn, hframe]
    rfl
  rw [hsegment, hvn] at hstarts
  rw [hstarts]
  refine ⟨?_, fun m => ?_⟩
  · rw [hframe]
    rfl
  · exact (setTx_txc v n m _).trans (by rw [htxc])

/-- A message is taken and its first segment sent (R9, R88 to R92). -/
theorem ownTurnStarts_taken
    (hskip : ∀ j, j < k → EntryIs u j none ∨ ∃ m, EntryIs u j (some m) ∧ passedOver u m = true)
    (hidle : (u.txc n).state = .idle) (hqueue : u.queue df.submit = h :: rest) (hchain : isChain u (h :: ms) = true)
    (hshape : shapeOk (u.fills (h :: ms)) = true) :
    u.ownTurnStarts = { u with tx := u.ownTurnStarts.tx, cursor := (u.cursor + k + 1) % u.cfg.length,
                               descs := u.ownTurnStarts.descs, queues := u.ownTurnStarts.queues,
                               request := some (.data (u.segmentFrame n df h h)) }
    ∧ (∀ m, u.ownTurnStarts.txc m = if m = n then ((u.txc n).taken h).sent else absenceRaised u m)
    ∧ (∀ q, u.ownTurnStarts.queue q = if q = df.submit then rest else u.queue q)
    ∧ ∀ d, u.ownTurnStarts.desc d =
        { u.desc d with owner := if d ∈ h :: ms then .transit n else (u.desc d).owner } := by
  obtain ⟨v, hframe, htxc, hvn, hplace, hstarts⟩ := ownTurnStarts_chosen hcursor hk hbelow hentry hd hpresent hskip
  have hcfg : v.cfg = u.cfg := by rw [hframe]
  have hdescs : v.descs = u.descs := by rw [hframe]
  have hvqueue : ∀ q, v.queue q = u.queue q := fun q => by rw [hframe]; rfl
  have hover : passedOver v n = false := by
    have hroster : v.rosterOf df.station = u.rosterOf df.station := by rw [hframe]; rfl
    simp [passedOver, hvn, hd, hroster, hpresent, hidle, hvqueue, hqueue]
  have hvdesc : ∀ e, v.desc e = u.desc e := fun e => congrArg (look · e) hdescs
  have htake := take_wellShaped (s := v) (n := n) (by rw [hvn]; exact hd) ((hvqueue _).trans hqueue)
    (isChain_of_descs hdescs hchain) (by rw [State.fills]; simp only [hvdesc]; exact hshape)
  have howners := setOwners_frame (v.setQueue df.submit rest) (h :: ms) (.transit n)
  have hdesc : ∀ e, ((v.setQueue df.submit rest).setOwners (h :: ms) (.transit n)).desc e =
      { u.desc e with owner := if e ∈ h :: ms then .transit n else (u.desc e).owner } := fun e => by
    rw [setOwners_desc, State.desc_setQueue_other, hvdesc]
  rw [scan_takes _ _ hplace hover (by rw [hvn]; exact hidle), htake, setTx_txc_self,
    if_pos (show ((v.txc n).taken h).state = .active from rfl), hvn] at hstarts
  generalize (v.setQueue df.submit rest).setOwners (h :: ms) (.transit n) = w at *
  have hself : (w.setTx n ((u.txc n).taken h)).txc n = (u.txc n).taken h := setTx_txc_self _ _ _
  have hnext : entryAfter (w.setTx n ((u.txc n).taken h)).cfg.length ((u.cursor + k) % u.cfg.length)
      = (u.cursor + k + 1) % u.cfg.length := by
    have hwcfg : (w.setTx n ((u.txc n).taken h)).cfg = u.cfg := by rw [howners]; exact hcfg
    rw [hwcfg, entryAfter_place _ _ (by omega)]
  rw [hnext, requestChosen_eq _ (by rw [hself]; exact hd) (by rw [hself]; rfl) (by rw [hself]; rfl), hself, setTx_setTx]
    at hstarts
  have hsegment : (w.setTx n ((u.txc n).taken h)).segmentFrame n df h h = u.segmentFrame n df h h := by
    have hw : w.ownAddr = u.ownAddr ∧ w.mem = u.mem := by rw [howners, hframe]; exact ⟨rfl, rfl⟩
    rw [State.segmentFrame, hself, State.desc_setTx_other, hdesc]
    change DataFrame.mk w.ownAddr _ _ _ _ _ ((List.range _).map fun j => w.mem.read _) = _
    rw [hw.1, hw.2]
    rfl
  rw [hsegment] at hstarts
  rw [hstarts]
  refine ⟨?_, fun m => ?_, fun q => ?_, hdesc⟩
  · rw [howners, hframe]
    rfl
  · have hwtxc : w.txc m = v.txc m := by rw [howners]; rfl
    exact (setTx_txc w n m _).trans (by rw [hwtxc, htxc])
  · have hwqueue : w.queue q = (v.setQueue df.submit rest).queue q := by rw [howners]; rfl
    change w.queue q = _
    rw [hwqueue, State.queue_setQueue, if_eq_comm, hvqueue]

end

/-! ## A chain that fails the shape check (R16, R31) -/

/-- The scan meets one channel that is not passed over, hands its message back, and passes everything from there on. -/
theorem scan_refused (hlen : 0 < s.cfg.length) (hover : passedOver s n = false) (hidle : (s.txc n).state = .idle)
    (htake : s.take n = v) (hvstate : (v.txc n).state ≠ .active) (hvpassed : ∀ m, passedOver v m = true)
    (hothers : ∀ m, m ≠ n → passedOver s m = true) (K p : Nat)
    (hentry : ∃ j, j < K ∧ s.scheduled ((p + j) % s.cfg.length) = some n) : s.scan K (p % s.cfg.length) = (v, none) := by
  induction K generalizing p with
  | zero =>
    obtain ⟨j, hj, -⟩ := hentry
    exact absurd hj (Nat.not_lt_zero j)
  | succ K ih =>
    obtain ⟨j, hj, hplace⟩ := hentry
    by_cases hhere : s.scheduled (p % s.cfg.length) = some n
    · rw [scan_takes _ _ hhere hover hidle, htake, if_neg hvstate, scan_passed hvpassed]
    · have hlater : s.scan (K + 1) (p % s.cfg.length) = s.scan K ((p + 1) % s.cfg.length) := by
        rw [← entryAfter_place _ _ hlen]
        cases hm : s.scheduled (p % s.cfg.length) with
        | none => exact scan_none _ _ hm
        | some m => exact scan_over _ _ hm (hothers m fun heq => hhere (heq ▸ hm))
      rw [hlater]
      cases j with
      | zero => exact absurd hplace hhere
      | succ j =>
        refine ih (p + 1) ⟨j, Nat.lt_of_succ_lt_succ hj, ?_⟩
        rw [Nat.add_assoc, Nat.add_comm 1 j]
        exact hplace

/-- The one message that waits fails the shape check: it is handed back MALFORMED, and the own turn is a PASS (R16, R31). -/
theorem ownTurnStarts_malformed {k : Nat} (hcursor : u.cursor < u.cfg.length) (hk : k < u.cfg.length)
    (hbelow : ∀ m, countsAbsent u m = true → (u.txc m).absence + 1 < 4) (hentry : EntryIs u k (some n))
    (hothers : ∀ m, m ≠ n → passedOver u m = true) (hd : (u.txc n).defn = some df)
    (hpresent : (u.rosterOf df.station).state ≠ .absent) (hidle : (u.txc n).state = .idle)
    (hqueue : u.queue df.submit = [h]) (hchain : isChain u (h :: ms) = true)
    (hshape : shapeOk (u.fills (h :: ms)) = false) (hrq : (u.desc h).returnQueue ≠ df.submit)
    (hrqOthers : ∀ m b, m ≠ n → (u.txc m).defn = some b → b.submit ≠ (u.desc h).returnQueue) :
    u.ownTurnStarts = { u with tx := u.ownTurnStarts.tx, descs := u.ownTurnStarts.descs, queues := u.ownTurnStarts.queues,
                               events := { u.events with malformed := true }, request := some (.pass u.ownAddr) }
    ∧ (∀ m, u.ownTurnStarts.txc m = absenceRaised u m)
    ∧ (∀ q, u.ownTurnStarts.queue q =
        (if q = df.submit then [] else u.queue q) ++ (if q = (u.desc h).returnQueue then [h] else []))
    ∧ ∀ e, u.ownTurnStarts.desc e = messageDesc u df.station n .malformed (h :: ms) e := by
  obtain ⟨hframe, htxc⟩ := advanceAbsences_all hbelow
  have hstarts := ownTurnStarts_eq (u := u) rfl
  generalize allChans.foldl State.advanceAbsence u = w at *
  have hcfg : w.cfg = u.cfg := by rw [hframe]
  have hwcursor : w.cursor = u.cursor := by rw [hframe]
  have hroster : w.roster = u.roster := by rw [hframe]
  have hwn : w.txc n = u.txc n := by rw [htxc, absenceRaised_present hd hpresent]
  have hwqueue : ∀ q, w.queue q = u.queue q := fun q => by rw [hframe]; rfl
  have hwdesc : ∀ e, w.desc e = u.desc e := fun e => by rw [hframe]; rfl
  have hwchain : isChain w (h :: ms) = true := isChain_of_descs (by rw [hframe]) hchain
  have hwshape : shapeOk (w.fills (h :: ms)) = false := by
    rw [State.fills]
    simp only [hwdesc]
    exact hshape
  have htake := take_malformed (s := w) (n := n) (rest := []) (by rw [hwn]; exact hd) ((hwqueue _).trans hqueue) hwchain
    hwshape
  have hback := handBack_frame (w.setQueue df.submit []) h .malformed df.station n
  have hbackQueue : ∀ q, ((w.setQueue df.submit []).handBack h .malformed df.station n).queue q =
      (if q = df.submit then [] else u.queue q) ++ (if q = (u.desc h).returnQueue then [h] else []) := fun q => by
    rw [handBack_queue, State.desc_setQueue_other, State.queue_setQueue, if_eq_comm, if_eq_comm df.submit, hwqueue, hwdesc]
    split
    · rfl
    · exact (List.append_nil _).symm
  have hbackDesc : ∀ e, ((w.setQueue df.submit []).handBack h .malformed df.station n).desc e =
      messageDesc u df.station n .malformed (h :: ms) e := fun e => by
    rw [handBack_messageDesc (w.setQueue df.submit []) h ms .malformed df.station n (isChain_of_descs (s := w) rfl hwchain)]
    simp only [messageDesc, State.desc_setQueue_other, hwdesc]
  have hbackTx : ∀ m, ((w.setQueue df.submit []).handBack h .malformed df.station n).txc m = w.txc m := fun m => by
    rw [hback]
    rfl
  generalize (w.setQueue df.submit []).handBack h .malformed df.station n = v at *
  have hvRoster : v.roster = w.roster := by rw [hback]; rfl
  have hvPassed : ∀ m, passedOver (v.raise .malformed) m = true := fun m => by
    by_cases hmn : m = n
    · have hempty : (v.raise .malformed).queue df.submit = [] := by
        change v.queue df.submit = []
        rw [hbackQueue, if_pos rfl, if_neg (Ne.symm hrq)]
        rfl
      have hvn : (v.raise .malformed).txc n = u.txc n := (hbackTx n).trans hwn
      rw [hmn, passedOver, hvn, hd]
      simp [hempty, hidle]
    · have hcontext : (v.raise .malformed).txc m = w.txc m := hbackTx m
      have hwover := (passedOver_raised hframe htxc m).trans (hothers m hmn)
      refine passedOver_kept (congrArg TxChan.defn hcontext) (congrArg TxChan.state hcontext) hvRoster (fun b hb => ?_) hwover
      change v.queue b.submit = _ ∨ v.queue b.submit = []
      obtain ⟨hdefn, -⟩ := absenceRaised_same u m
      have hbu : (u.txc m).defn = some b := by rw [← hdefn, ← htxc]; exact hb
      rw [hbackQueue, if_neg (hrqOthers m b hmn hbu), List.append_nil]
      by_cases hsame : b.submit = df.submit
      · rw [if_pos hsame]
        exact .inr rfl
      · rw [if_neg hsame]
        exact .inl (hwqueue _).symm
  have hover : passedOver w n = false := by
    have hentryRoster : w.rosterOf df.station = u.rosterOf df.station := congrArg (look · df.station) hroster
    simp [passedOver, hwn, hd, hentryRoster, hpresent, hidle, hwqueue, hqueue]
  have hscan := scan_refused (s := w) (by rw [hcfg]; omega) hover (by rw [hwn]; exact hidle) htake
    (by change (v.txc n).state ≠ _; rw [hbackTx, hwn, hidle]; decide) hvPassed
    (fun m hmn => (passedOver_raised hframe htxc m).trans (hothers m hmn)) w.cfg.length w.cursor
    ⟨k, by rw [hcfg]; exact hk, by rw [hcfg, hwcursor]; exact scheduled_eq (by rw [hcfg]; exact hentry)⟩
  rw [hcfg, hwcursor, Nat.mod_eq_of_lt hcursor] at hscan
  rw [hstarts, hcfg, hwcursor, hscan]
  refine ⟨?_, fun m => (hbackTx m).trans (htxc m), hbackQueue, hbackDesc⟩
  change (v.raise .malformed).requestPass = _
  rw [hback, hframe]
  rfl

end Sys2Proof.Machine
end

section
/-! PROOFS. The own turn reached by a turn end, and turns that end silent (R60 to R69, R73, R80, R81, R87, R90, R129, R130). -/

namespace Sys2Proof.Machine

open Sys2Proof.Safety

variable {s t u v w : State} {bytes : List Byte} {a b : Station} {parts : ChanId → List DescId}

/-! ## What a turn end or a station heard changes, carried to states that differ elsewhere -/

/-- What a turn end does to the receive channels is told alike of states with the same receive channels, descriptors, queues
and events. -/
theorem turnCounted_moved (h : TurnCounted a parts s t) (hs : v.rx = s.rx ∧ v.descs = s.descs ∧ v.queues = s.queues)
    (ht : w.rx = t.rx ∧ w.descs = t.descs ∧ w.queues = t.queues)
    (hframe : w = { v with rx := w.rx, descs := w.descs, queues := w.queues, events := { v.events with
        abandon := v.events.abandon || allChans.any fun n => patienceOut a (s.rxc n) } }) : TurnCounted a parts v w := by
  obtain ⟨-, hrxc, hqueue, hdesc⟩ := h
  obtain ⟨hsrx, hsdescs, hsqueues⟩ := hs
  obtain ⟨htrx, htdescs, htqueues⟩ := ht
  have hvrxc : ∀ n, v.rxc n = s.rxc n := fun n => congrArg (look · n) hsrx
  have hvdesc : ∀ e, v.desc e = s.desc e := fun e => congrArg (look · e) hsdescs
  have hnone : ∀ e, (allChans.find? fun _ => ([] : List DescId).contains e) = none := fun _ => rfl
  refine ⟨?_, fun n => ?_, fun q => ?_, fun e => ?_⟩
  · simp only [hvrxc]
    exact hframe
  · rw [hvrxc, ← hrxc]
    exact congrArg (look · n) htrx
  · have hvqueue : v.queue q = s.queue q := congrArg (look · q) hsqueues
    have hwqueue : w.queue q = t.queue q := congrArg (look · q) htqueues
    rw [hvqueue, hwqueue, hqueue]
    simp only [endedTo, hvrxc, hvdesc]
  · have hwdesc : w.desc e = t.desc e := congrArg (look · e) htdescs
    rw [hwdesc, hdesc]
    simp only [endedDesc, partialDesc, hnone, hvrxc, hvdesc]
    cases allChans.find? fun n => (parts n).contains e <;> rfl

theorem sourceHeard_moved (h : SourceHeard a s t)
    (hs : v.roster = s.roster ∧ v.tx = s.tx ∧ v.ownAddr = s.ownAddr) (ht : w.roster = t.roster ∧ w.tx = t.tx)
    (hframe : w = { v with roster := w.roster, tx := w.tx }) : SourceHeard a v w := by
  obtain ⟨-, hroster, htxc⟩ := h
  obtain ⟨hsroster, hstx, hsown⟩ := hs
  obtain ⟨htroster, httx⟩ := ht
  have hvroster : ∀ c, v.rosterOf c = s.rosterOf c := fun c => congrArg (look · c) hsroster
  have hvtxc : ∀ n, v.txc n = s.txc n := fun n => congrArg (look · n) hstx
  refine ⟨hframe, fun c => ?_, fun n => ?_⟩
  · have hw : w.rosterOf c = t.rosterOf c := congrArg (look · c) htroster
    rw [hw, hroster, rosterAfter, rosterAfter, hsown, hvroster]
  · have hw : w.txc n = t.txc n := congrArg (look · n) httx
    rw [hw, htxc, hvtxc, afterHeard, afterHeard, hsown, hvroster]

/-- A station heard has its messages in hand as before. -/
theorem ending_heard (hheard : SourceHeard b s t)
    (h : ending s (fun _ => false) (patienceOut a) (fun _ => []) parts = true) :
    ending t (fun _ => false) (patienceOut a) (fun _ => []) parts = true := by
  obtain ⟨hframe, -, htxc⟩ := hheard
  refine ending_sameMessages h (fun n => ⟨?_, ?_, rfl⟩) (by rw [hframe]) (by rw [hframe])
  · rw [htxc, afterHeard_defn]
  · rw [htxc]
    unfold afterHeard
    split
    · rfl
    · rfl

/-! ## The own turn reached (R67, R87) -/

/-- The turn controller once a turn end has reached the own turn (R60, R67). -/
def TurnControl.mine (c : TurnControl) : TurnControl := { turnAfter c with ownTurn := true }

/-- The start of the own turn that has been reached (R67, R87). -/
def State.startsTurn (u : State) : State := if u.turn.quiet = 0 then u.ownTurnStarts else u

theorem startOwnTurn_reached (hst : s.station = .online) (hown : s.turn.counter = s.ownAddr) :
    s.startOwnTurn = State.startsTurn { s with turn := { s.turn with ownTurn := true } } := by
  have hat := State.atOwnTurn_iff.mpr ⟨hst, hown⟩
  unfold State.startOwnTurn State.startsTurn
  rw [markOwnTurn_online hst, if_pos hown]
  by_cases hquiet : s.turn.quiet = 0
  · rw [if_pos ⟨hat, hquiet⟩, if_pos hquiet]
  · rw [if_neg fun h => hquiet h.2, if_neg hquiet]

theorem startsTurn_station (hst : u.station = .online) : u.startsTurn.station = .online := by
  have hst' : u.station ≠ .starting ∧ u.station ≠ .unconfigured := by rw [hst]; decide
  have hu : EngineUpdates u u.startsTurn :=
    .ite (fun _ => (engineUpdates_kept u).ownTurnStarts (Updates.refl u) (fun n hu => hu.setTx (by decide) n _ rfl) hst') fun _ => .refl u
  rw [hu.station_eq, hst]

theorem next_is_other (hnext : s.turn.counter + 1 = s.ownAddr) : s.turn.counter ≠ s.ownAddr := fun h =>
  next_ne_own h hnext

/-- A turn end that reaches the own turn: the turn end at the engines and the roster, then the start. -/
theorem turnEnd_reached {way : TurnWay} (hst : s.station = .online) (hnext : s.turn.counter + 1 = s.ownAddr) :
    s.turnEnd way = State.startsTurn { s.endTurn way with turn := s.turn.mine } := by
  have hest : (s.endTurn way).station = .online := (endTurn_station s way).trans hst
  rw [State.turnEnd, startOwnTurn_reached hest (by rw [endTurn_turn, endTurn_ownAddr]; exact hnext), endTurn_turn]
  exact leaveAfter_online (startsTurn_station hest)

theorem turnPasses_mine (h : ending s (fun _ => false) (patienceOut s.turn.counter) (fun _ => []) parts = true) :
    TurnCounted s.turn.counter parts { s with turn := s.turn.mine } { s.turnPasses with turn := s.turn.mine } :=
  turnCounted_withTurn (turnPasses_counted h) s.turn.mine

theorem hearSource_startsTurn_kept (hst : u.station = .online) (f : Option Frame) :
    (State.hearSource u.startsTurn f).station = .online ∧ (State.hearSource u.startsTurn f).ownAddr = u.ownAddr := by
  have hst' : u.station ≠ .starting ∧ u.station ≠ .unconfigured := by rw [hst]; decide
  have hu : EngineUpdates u (State.hearSource u.startsTurn f) :=
    (engineUpdates_kept u).hearSource
      (.ite (fun _ => (engineUpdates_kept u).ownTurnStarts (Updates.refl u) (fun n hu => hu.setTx (by decide) n _ rfl) hst')
        fun _ => .refl u) f
  exact ⟨hu.station_eq.trans hst, hu.ownAddr_eq⟩

/-- The window of another station's turn, the own turn next: it starts, and then the frame's source is heard (R64). -/
theorem frameInWindow_reached {f : Option Frame} (hst : s.station = .online) (hnext : s.turn.counter + 1 = s.ownAddr)
    (hf : turnHolder f = none) :
    s.frameInWindow f = State.hearSource (State.startsTurn { s.turnPasses with turn := s.turn.mine }) f := by
  have hpst : s.turnPasses.station = .online := (turnPasses_station s).trans hst
  have hturn := turnPasses_turn s
  have hownAddr := turnPasses_ownAddr s
  unfold State.frameInWindow
  dsimp only
  rw [hf]
  dsimp only
  generalize s.turnPasses = p at *
  have hstarts : p.startOwnTurn = State.startsTurn { p with turn := s.turn.mine } := by
    rw [startOwnTurn_reached hpst (by rw [hturn, hownAddr]; exact hnext), hturn]
    rfl
  obtain ⟨hstation, hown⟩ := hearSource_startsTurn_kept (u := { p with turn := s.turn.mine }) hpst f
  have hother : s.turn.counter ≠ State.ownAddr (State.hearSource (State.startsTurn { p with turn := s.turn.mine }) f) :=
    fun h => next_is_other hnext (h.trans (hown.trans hownAddr))
  rw [hstarts, State.tellTransmit, if_neg hother]
  exact leaveAfter_online hstation

/-! ## Silent turns (R61, R65, R81) -/

theorem exec_turnGapExpiry (hst : s.station = .online) (hline : s.line = .quiet) (hrequest : s.request = none)
    (htimer : s.turn.timer = .turnGap) : exec .turnGapExpiry s = .next (s.turnEnd .silent) :=
  congrArg Host.Outcome.next (if_pos ((s.canExpire_iff _).mpr ⟨s.lineInUse_iff.mpr (.inr (.inl hst)), ⟨hline, hrequest⟩, htimer⟩))

theorem missTurn_first (hother : a ≠ s.ownAddr) (hfirst : (s.rosterOf a).state = .absent ∨ (s.rosterOf a).misses = 0) :
    s.missTurn a = if (s.rosterOf a).state = .absent then s else s.setRoster a { s.rosterOf a with misses := 1 } := by
  unfold State.missTurn State.isAbsent
  by_cases habsent : (s.rosterOf a).state = .absent
  · rw [if_pos (.inr (beq_iff_eq.mpr habsent)), if_pos habsent]
  · have hmisses := hfirst.resolve_left habsent
    have hbelow : ¬ Config.missLimit ≤ 0 + 1 := by decide
    rw [if_neg (by simp [hother, habsent]), if_neg habsent, hmisses, if_neg hbelow]

theorem missTurn_second (hother : a ≠ s.ownAddr) (hpresent : (s.rosterOf a).state ≠ .absent)
    (hmisses : (s.rosterOf a).misses = 1) : s.missTurn a = s.becomeAbsent a := by
  have hlimit : Config.missLimit ≤ 1 + 1 := by decide
  unfold State.missTurn State.isAbsent
  rw [if_neg (by simp [hother, hpresent]), hmisses, if_pos hlimit]

theorem turnPasses_rosterOf (s : State) (b : Station) : s.turnPasses.rosterOf b = s.rosterOf b :=
  congrArg (look · b) ((turnPasses_updates s).roster_eq (by decide))

theorem missedTwice_turnPasses {gone msgs : ChanId → List DescId} (h : missedTwiceEnds s s.turn.counter gone msgs parts = true) :
    MissedTwice s.turn.counter gone msgs parts { s with turn := turnAfter s.turn }
      (s.turnPasses.becomeAbsent s.turn.counter) := by
  refine missedTwice_ending { s with turn := turnAfter s.turn } s.turn.counter gone msgs parts ?_
  simp only [missedTwiceEnds, Bool.and_eq_true] at h ⊢
  obtain ⟨⟨hgone, hrest⟩, hnodup⟩ := h
  exact ⟨⟨ending_moved hgone rfl rfl rfl, ending_moved hrest rfl rfl rfl⟩, hnodup⟩

/-- A first silent turn, or one of an ABSENT station: the turn end, and the miss in the roster. -/
theorem missed_first (hother : s.turn.counter ≠ s.ownAddr)
    (hfirst : (s.rosterOf s.turn.counter).state = .absent ∨ (s.rosterOf s.turn.counter).misses = 0)
    (h : ending s (fun _ => false) (patienceOut s.turn.counter) (fun _ => []) parts = true) :
    TurnCounted s.turn.counter parts { s with
        turn := turnAfter s.turn, roster := (s.turnPasses.missTurn s.turn.counter).roster }
      (s.turnPasses.missTurn s.turn.counter)
    ∧ (s.turnPasses.missTurn s.turn.counter).roster =
        if (s.rosterOf s.turn.counter).state = .absent then s.roster
        else (s.setRoster s.turn.counter { s.rosterOf s.turn.counter with misses := 1 }).roster := by
  have hcounted := turnPasses_counted h
  have hmiss := missTurn_first (s := s.turnPasses) (a := s.turn.counter) (by rw [turnPasses_ownAddr]; exact hother)
    (by rw [turnPasses_rosterOf]; exact hfirst)
  rw [turnPasses_rosterOf] at hmiss
  have hroster : s.turnPasses.roster = s.roster := (turnPasses_updates s).roster_eq (by decide)
  rw [hmiss]
  by_cases habsent : (s.rosterOf s.turn.counter).state = .absent
  · rw [if_pos habsent, if_pos habsent, hroster]
    exact ⟨hcounted, rfl⟩
  · rw [if_neg habsent, if_neg habsent]
    obtain ⟨hframe, -⟩ := id hcounted
    generalize s.turnPasses = p at *
    refine ⟨turnCounted_moved hcounted ⟨rfl, rfl, rfl⟩ ⟨rfl, rfl, rfl⟩ ?_, ?_⟩
    · rw [hframe]
      rfl
    · rw [State.setRoster, hroster]
      rfl

/-- Settles O41: a silent turn is counted and missed (`missed_first`, `missedTwice_turnPasses`); the own one is quiet. -/
theorem gapExpiryEndsTurnSilent : Obligations.GapExpiryEndsTurnSilent := by
  intro s hsilent
  obtain ⟨hst, hline, hrequest, htimer⟩ := onlineSilent_iff.mp hsilent
  rw [exec_turnGapExpiry hst hline hrequest htimer]
  refine ⟨fun hown hnext => ⟨fun parts hfirst hend => ?first, fun gone msgs parts hpresent hmisses hends => ?second⟩,
    fun hown hmine hquiet hout hfrom => ?own⟩
  case first =>
    rw [turnEnd_online hst hnext, endTurn_silent_other hown]
    obtain ⟨hcounted, hroster⟩ := missed_first hown hfirst hend
    refine ⟨_, rfl, hcounted, fun b => ?_⟩
    rw [State.rosterOf, hroster]
    by_cases habsent : (s.rosterOf s.turn.counter).state = .absent
    · rw [if_pos habsent, if_neg]
      · rfl
      · rintro ⟨rfl, hpresent⟩
        exact hpresent habsent
    · rw [if_neg habsent]
      refine (State.rosterOf_setRoster s _ b _).trans ?_
      by_cases hb : s.turn.counter = b
      · subst hb
        rw [if_pos rfl, if_pos ⟨rfl, habsent⟩]
      · rw [if_neg hb, if_neg fun h => hb h.1.symm]
  case second =>
    have hmiss := missTurn_second (s := s.turnPasses) (a := s.turn.counter) (by rw [turnPasses_ownAddr]; exact hown)
      (by rw [turnPasses_rosterOf]; exact hpresent) (by rw [turnPasses_rosterOf]; exact hmisses)
    rw [turnEnd_online hst hnext, endTurn_silent_other hown, hmiss]
    exact ⟨_, rfl, missedTwice_turnPasses hends⟩
  case own =>
    rw [turnEnd_own_nothing hst hown hfrom hout]
    have hturn : turnAfter s.turn =
        { s.turn with counter := s.ownAddr + 1, quiet := s.turn.quiet - 1, ownTurn := false } := by
      rw [turnAfter, hmine, if_pos rfl, hown, ← htimer]
    rw [hturn]

end Sys2Proof.Machine
end

section
/-! PROOFS. Adoption: the first PASS or DATA heard while LISTENING (R49, R50, R62, R67, R71, R73, R90, R104). -/

namespace Sys2Proof.Machine

open Sys2Proof.Safety

variable {s t u v w : State} {bytes : List Byte} {b : Station} {n : ChanId}

/-! ## Nothing to send -/

theorem passedOver_of_cannotSend (h : cannotSend s n = true) : passedOver s n = true := by
  unfold cannotSend at h
  unfold passedOver
  cases hd : (s.txc n).defn with
  | none => rfl
  | some df =>
    rw [hd] at h
    exact Bool.or_eq_true_iff.mpr (.inr h)

theorem countsAbsent_noneAbsent (h : ∀ df, (s.txc n).defn = some df → (s.rosterOf df.station).state ≠ .absent) :
    countsAbsent s n = false := by
  cases hd : (s.txc n).defn with
  | none => rw [countsAbsent, hd]
  | some df => exact Bool.eq_false_iff.mpr fun hcounts => h df hd (countsAbsent_absent hd hcounts)

/-- A station heard leaves a station that is not ABSENT not ABSENT. -/
theorem rosterAfter_present {a c : Station} (h : (s.rosterOf c).state ≠ .absent) : (rosterAfter s a c).state ≠ .absent := by
  unfold rosterAfter
  split
  · decide
  · exact h

/-- An own turn with nothing to send and no destination ABSENT requests a PASS and changes nothing else (R87, R90). -/
theorem ownTurnStarts_idle (hcannot : ∀ m, cannotSend u m = true)
    (hpresent : ∀ m df, (u.txc m).defn = some df → (u.rosterOf df.station).state ≠ .absent) :
    u.ownTurnStarts = { u with request := some (.pass u.ownAddr) } := by
  have hnone : ∀ m, countsAbsent u m = false := fun m => countsAbsent_noneAbsent (hpresent m)
  obtain ⟨hframe, htxc⟩ := ownTurnStarts_pass (u := u) (fun m h => absurd h (by rw [hnone m]; decide)) fun m =>
    passedOver_of_cannotSend (hcannot m)
  have htx : u.ownTurnStarts.tx = u.tx := table_ext fun m => (htxc m).trans (if_neg (by rw [hnone m]; decide))
  rw [hframe, htx]

/-! ## Adoption (R71, R73) -/

/-- The state once a listening station has adopted the turn of a station, before it hears that station (R71, R73). -/
def State.adopted (s : State) (b : Station) : State :=
  { s with
    station := .online
    turn := { s.turn with counter := b, ownTurn := false, timer := .stopped, quiet := if s.turn.flavour = .joining then 2 else 0 } }

/-- FRAME_END with a PASS or DATA while LISTENING. -/
theorem exec_frameEnd_listening {g : Frame} {k : Heard} (hst : s.station = .listening) (hline : s.line = .receiving k)
    (hrequest : s.request = none) (hdecode : decodeFrame bytes = some g) (hg : OpensTurn g b) :
    exec (.frameEnd bytes) s =
      .next (((((s.heardEnd bytes).adopted b).heardFrom b).openTurn g).frameToEngines (some g)) := by
  rw [exec_frameEnd hline hrequest hdecode fun r hr => absurd hr (hg.not_reply r)]
  refine congrArg (fun u => Host.Outcome.next (State.frameToEngines u (some g))) ?_
  unfold State.frameToTurns
  have hst' : (s.heardEnd bytes).station = .listening := hst
  rw [hst', hg.holder]
  dsimp only
  unfold State.adopt
  dsimp only
  rw [hg.source]
  rfl

/-- A PASS whose turn end reaches the own turn (R60, R62, R67). -/
theorem openPass_reached (hst : v.station = .online) (hnext : v.turn.counter + 1 = v.ownAddr) (b : Station) :
    v.openTurn (.pass b) = State.startsTurn { v.turnPasses with turn := v.turn.mine } := by
  have hend : v.openTurn (.pass b) = State.startsTurn { v.endTurn .byPass with turn := v.turn.mine } := turnEnd_reached hst hnext
  rw [endTurn_other (next_is_other hnext) (by decide)] at hend
  exact hend

/-- A PASS opens and ends the turn of its source; when the own turn is next, with nothing to send, it is a PASS once the quiet
count is 0 (R60, R62, R67, R90). -/
theorem openPass_idle (hst : v.station = .online) (hcounter : v.turn.counter = b)
    (hout : b = v.ownAddr → nothingOutstanding v = true) (hlasts : patienceLasts v b = true)
    (hidle : b + 1 = v.ownAddr ∧ (turnAfter v.turn).quiet = 0 →
      ∀ m, cannotSend v m = true ∧ ∀ df, (v.txc m).defn = some df → (v.rosterOf df.station).state ≠ .absent) :
    v.openTurn (.pass b) = { v with
      turn := { turnAfter v.turn with ownTurn := decide (b + 1 = v.ownAddr) }, rx := (v.openTurn (.pass b)).rx,
      request := if b + 1 = v.ownAddr ∧ (turnAfter v.turn).quiet = 0 then some (.pass v.ownAddr) else v.request }
    ∧ ∀ m, (v.openTurn (.pass b)).rxc m = afterTurnOf b (v.rxc m) := by
  by_cases hnext : b + 1 = v.ownAddr
  · obtain ⟨hpass, hrxc⟩ := turnPasses_lasts (s := v) (by rw [hcounter]; exact hlasts)
    rw [hcounter] at hrxc
    rw [openPass_reached hst (by rw [hcounter]; exact hnext), decide_eq_true hnext]
    generalize v.turnPasses = p at *
    unfold State.startsTurn
    by_cases hquiet : (turnAfter v.turn).quiet = 0
    · have hstarts : State.ownTurnStarts { p with turn := v.turn.mine } =
          { p with turn := v.turn.mine, request := some (.pass p.ownAddr) } := by
        refine ownTurnStarts_idle (u := { p with turn := v.turn.mine }) (fun m => ?_) fun m df hd => ?_
        · rw [hpass]
          exact (hidle ⟨hnext, hquiet⟩ m).1
        · rw [hpass] at hd ⊢
          exact (hidle ⟨hnext, hquiet⟩ m).2 df hd
      rw [if_pos (show v.turn.mine.quiet = 0 from hquiet), if_pos ⟨hnext, hquiet⟩, hstarts]
      exact ⟨by rw [hpass]; rfl, hrxc⟩
    · rw [if_neg (show ¬ v.turn.mine.quiet = 0 from hquiet), if_neg fun h => hquiet h.2]
      exact ⟨by rw [hpass]; rfl, hrxc⟩
  · obtain ⟨hframe, hrxc⟩ := openTurn_calm (g := .pass b) (.inl rfl) hst hcounter (fun _ => hnext) hout fun _ => hlasts
    refine ⟨hframe.trans ?_, fun m => (hrxc m).trans (if_pos rfl)⟩
    rw [if_neg fun h => hnext h.1, decide_eq_false hnext]
    rfl

theorem cannotSend_congr (hdefn : (t.txc n).defn = (s.txc n).defn) (hstate : (t.txc n).state = (s.txc n).state)
    (hqueues : t.queues = s.queues) : cannotSend t n = cannotSend s n := by
  have hqueue : ∀ q, t.queue q = s.queue q := fun q => congrArg (look · q) hqueues
  simp only [cannotSend, hdefn, hstate, hqueue]

theorem flavour_resync {f : Flavour} (h : f ≠ .joining) : f = .resync := by
  cases f with
  | joining => exact absurd rfl h
  | resync => rfl

/-- Settles O27: a PASS or DATA is adopted and opens its turn; a REPLY is invalid and the listen wait starts again. -/
theorem listeningAdoptsPass : Obligations.ListeningAdoptsPass := by
  intro bytes s k hst hline hrequest quiet since
  refine ⟨fun b hdecode hlasts hout => ?pass, fun f hdecode hdest => ?data, fun r hdecode hbegan hcounted => ?reply⟩
  case pass =>
    intro ownNext hidle
    have hheard := heardFrom_spec ((s.heardEnd bytes).adopted b) b
    rw [exec_frameEnd_listening hst hline hrequest hdecode (.inl rfl)]
    generalize ((s.heardEnd bytes).adopted b).heardFrom b = v at *
    obtain ⟨hframe, hroster, htxc⟩ := id hheard
    have hown : v.ownAddr = s.ownAddr := by rw [hframe]; rfl
    have hafter : (turnAfter v.turn).quiet = quiet := by rw [hframe]; rfl
    have hnext : (b + 1 = s.ownAddr ∧ quiet = 0) ↔ ownNext := by
      by_cases hjoining : s.turn.flavour = .joining
      · simp [quiet, ownNext, hjoining]
      · simp [quiet, ownNext, flavour_resync hjoining]
    obtain ⟨hopen, hrxc⟩ := openPass_idle (v := v) (b := b) (by rw [hframe]; rfl) (by rw [hframe]; rfl)
      (by rw [hown]; exact fun h => nothingOutstanding_heard hheard (hout h))
      (patienceLasts_of_rx (by rw [hframe]; rfl) hlasts) fun h m => by
        rw [hown, hafter, hnext] at h
        have hdefn := afterHeard_defn ((s.heardEnd bytes).adopted b) b (s.txc m)
        have hstate := afterHeard_state ((s.heardEnd bytes).adopted b) b (s.txc m)
        obtain ⟨hcannot, hpresent⟩ := hidle h m
        refine ⟨(cannotSend_congr ((congrArg TxChan.defn (htxc m)).trans hdefn) ((congrArg TxChan.state (htxc m)).trans hstate)
          (by rw [hframe]; rfl)).trans hcannot, fun df hd => ?_⟩
        rw [hroster]
        exact rosterAfter_present (hpresent df (hdefn.symm.trans ((congrArg TxChan.defn (htxc m)).symm.trans hd)))
    change ∃ t, Host.Outcome.next (v.openTurn (.pass b)) = .next t ∧ _
    generalize v.openTurn (.pass b) = w at *
    refine ⟨_, rfl, ?_, fun c => ?_, fun n => ?_, fun n => ?_⟩
    · have hnone : v.request = none := by rw [hframe]; exact hrequest
      rw [hopen, hafter, hown, if_congr hnext rfl rfl, hnone, hframe]
      rfl
    · rw [hopen]
      exact hroster c
    · rw [hopen]
      exact htxc n
    · rw [hrxc, hframe]
      rfl
  case data =>
    obtain ⟨hframe, hroster, htxc⟩ := heardFrom_spec ((s.heardEnd bytes).adopted f.source) f.source
    rw [exec_frameEnd_listening hst hline hrequest hdecode (.inr ⟨f, rfl, rfl⟩)]
    generalize ((s.heardEnd bytes).adopted f.source).heardFrom f.source = v at *
    have hown : v.ownAddr = s.ownAddr := by rw [hframe]; rfl
    have hquiet : v.turn.quiet = quiet := by rw [hframe]; rfl
    have hengine : (v.openTurn (.data f)).frameToEngines (some (.data f)) = v.withTimer .responseWindow :=
      heardData_elsewhere (s := v.withTimer .responseWindow)
        (hdest.imp (fun h hd => h (hd.trans hown)) fun h => hquiet.trans_ne (by simp [quiet, h]))
    rw [hengine]
    refine ⟨_, rfl, ?_, hroster, htxc⟩
    rw [hframe]
    rfl
  case reply =>
    have hverdict : verdict k.began bytes = none := by
      rw [verdict, hdecode, hbegan]
      rfl
    rw [exec_frameEnd_complete hline hrequest (frameComplete_of_decode hdecode), hverdict, frameEnds_invalid, hcounted,
      frameToTurns_listening (s := (s.lowBefore bytes).invalidEnd true) hst k.began rfl]
    rfl

end Sys2Proof.Machine
end

section
/-! PROOFS. The own turn that a turn end reaches (R50, R60 to R69, R73, R80, R81, R87, R129), and what it sends (R9, R16, R31,
R85 to R92, R99, R103). -/

namespace Sys2Proof.Machine

open Sys2Proof.Safety

variable {s t u v w : State} {bytes : List Byte} {a b : Station} {parts gone msgs : ChanId → List DescId}

/-! ## Turn ends of another station that reach the own turn (R60 to R65, R81) -/

/-- No partial is in two chains, and the partials that the turn of the station ends are `parts` (R129). -/
def PatienceEnds (s : State) (a : Station) (parts : ChanId → List DescId) : Prop :=
  ending s (fun _ => false) (patienceOut a) (fun _ => []) parts = true

theorem patienceEnds_moved (h : PatienceEnds s a parts) (htx : t.tx = s.tx) (hrx : t.rx = s.rx) (hdescs : t.descs = s.descs) :
    PatienceEnds t a parts := ending_moved h htx hrx hdescs

theorem missedTwice_withTurn (h : MissedTwice a gone msgs parts s t) (c : TurnControl) :
    MissedTwice a gone msgs parts { s with turn := c } { t with turn := c } := by
  obtain ⟨hframe, hroster, htally, htxc, hrxc, hqueue, hdesc⟩ := h
  exact ⟨by rw [hframe]; rfl, hroster, htally, htxc, hrxc, hqueue, hdesc⟩

section
variable (hst : s.station = .online) (ha : a = s.turn.counter) (hnext : a + 1 = s.ownAddr)
include hst ha hnext

theorem turnEnd_counted {way : TurnWay} (hway : way ≠ .silent) (hends : PatienceEnds s a parts) :
    ∃ u, TurnCounted a parts { s with turn := s.turn.mine } u ∧ s.turnEnd way = u.startsTurn := by
  subst ha
  refine ⟨{ s.turnPasses with turn := s.turn.mine }, turnPasses_mine hends, ?_⟩
  rw [turnEnd_reached hst hnext, endTurn_other (next_is_other hnext) hway]

theorem turnEnd_missedOnce (hends : PatienceEnds s a parts)
    (hfirst : (s.rosterOf a).state = .absent ∨ (s.rosterOf a).misses = 0) :
    ∃ u, TurnCounted a parts
        { (if (s.rosterOf a).state = .absent then s else s.setRoster a { s.rosterOf a with misses := 1 }) with
          turn := s.turn.mine } u
      ∧ s.turnEnd .silent = u.startsTurn := by
  subst ha
  have hother := next_is_other hnext
  obtain ⟨hcounted, hroster⟩ := missed_first hother hfirst hends
  refine ⟨{ s.turnPasses.missTurn s.turn.counter with turn := s.turn.mine }, ?_, ?_⟩
  · have hmine := turnCounted_withTurn hcounted s.turn.mine
    have hstate : { s with
          turn := s.turn.mine, roster := (s.turnPasses.missTurn s.turn.counter).roster } =
        { (if (s.rosterOf s.turn.counter).state = .absent then s
            else s.setRoster s.turn.counter { s.rosterOf s.turn.counter with misses := 1 }) with turn := s.turn.mine } := by
      rw [hroster]
      split
      · rfl
      · rfl
    rw [← hstate]
    exact hmine
  · rw [turnEnd_reached hst hnext, endTurn_silent_other hother]

theorem turnEnd_missedTwice (hpresent : (s.rosterOf a).state ≠ .absent) (hmisses : (s.rosterOf a).misses = 1)
    (hends : missedTwiceEnds s a gone msgs parts = true) :
    ∃ u, MissedTwice a gone msgs parts { s with turn := s.turn.mine } u ∧ s.turnEnd .silent = u.startsTurn := by
  subst ha
  have hother := next_is_other hnext
  refine ⟨{ s.turnPasses.becomeAbsent s.turn.counter with turn := s.turn.mine },
    missedTwice_withTurn (missedTwice_turnPasses hends) s.turn.mine, ?_⟩
  rw [turnEnd_reached hst hnext, endTurn_silent_other hother, missTurn_second (by rw [turnPasses_ownAddr]; exact hother)
    (by rw [turnPasses_rosterOf]; exact hpresent) (by rw [turnPasses_rosterOf]; exact hmisses)]

/-- A frame other than a PASS or DATA in a window: the turn ends and the own turn starts before the frame's source is heard. -/
theorem windowFrame_counted {f : Option Frame} (hf : turnHolder f = none) (hends : PatienceEnds s a parts) :
    ∃ u, TurnCounted a parts { s with turn := s.turn.mine } u
      ∧ s.frameToTurns .window f = State.hearSource u.startsTurn f := by
  subst ha
  refine ⟨{ s.turnPasses with turn := s.turn.mine }, turnPasses_mine hends, ?_⟩
  rw [frameToTurns_inTurns (.inl hst), State.frameInTurn, if_pos rfl, frameInWindow_reached hst hnext hf]

end

/-! ## By event -/

section
variable (hst : s.station = .online) (hrequest : s.request = none) (ha : a = s.turn.counter) (hnext : a + 1 = s.ownAddr)
  (hends : PatienceEnds s a parts)
include hst hrequest ha hnext hends

theorem reached_windowExpiry (hline : s.line = .quiet) (htimer : s.turn.timer = .responseWindow) :
    ∃ u, TurnCounted a parts { s with turn := s.turn.mine } u ∧ exec .responseWindowExpiry s = .next u.startsTurn := by
  obtain ⟨u, hcounted, hu⟩ := turnEnd_counted (way := .byWindow) hst ha hnext (by decide) hends
  exact ⟨u, hcounted, (exec_responseWindowExpiry (.inl hst) hline hrequest htimer).trans (congrArg Host.Outcome.next hu)⟩

theorem reached_gapExpiry (hline : s.line = .quiet) (htimer : s.turn.timer = .turnGap)
    (hfirst : (s.rosterOf a).state = .absent ∨ (s.rosterOf a).misses = 0) :
    ∃ u, TurnCounted a parts
        { (if (s.rosterOf a).state = .absent then s else s.setRoster a { s.rosterOf a with misses := 1 }) with
          turn := s.turn.mine } u
      ∧ exec .turnGapExpiry s = .next u.startsTurn := by
  obtain ⟨u, hcounted, hu⟩ := turnEnd_missedOnce hst ha hnext hends hfirst
  exact ⟨u, hcounted, (exec_turnGapExpiry hst hline hrequest htimer).trans (congrArg Host.Outcome.next hu)⟩

theorem reached_idleFrameEnd {k : Heard} (hline : s.line = .receiving k ∨ s.line = .skipping k) (hbegan : k.began = .window) :
    ∃ u, TurnCounted a parts { s.idleExceeded.invalidEnd k.counted with turn := s.turn.mine } u
      ∧ exec .idleFrameEnd s = .next u.startsTurn := by
  obtain ⟨u, hcounted, hu⟩ := windowFrame_counted (s := s.idleExceeded.invalidEnd k.counted) (f := none) hst ha hnext rfl
    (patienceEnds_moved hends rfl rfl rfl)
  refine ⟨u, hcounted, (exec_idleFrameEnd hline hrequest).trans (congrArg Host.Outcome.next ?_)⟩
  rw [hbegan, hu]
  rfl

theorem reached_invalidFrame (hline : s.line = .receiving { began := .window, counted := true, remainder := false })
    (hcomplete : frameComplete bytes = true) (hdecode : decodeFrame bytes = none) :
    ∃ u, TurnCounted a parts { (s.lowBefore bytes).invalidEnd true with turn := s.turn.mine } u
      ∧ exec (.frameEnd bytes) s = .next u.startsTurn := by
  obtain ⟨u, hcounted, hu⟩ := windowFrame_counted (s := (s.lowBefore bytes).invalidEnd true) (f := none) hst ha hnext rfl
    (patienceEnds_moved hends rfl rfl rfl)
  have hverdict : verdict .window bytes = none := by rw [verdict, hdecode]
  refine ⟨u, hcounted, (exec_frameEnd_complete hline hrequest hcomplete).trans (congrArg Host.Outcome.next ?_)⟩
  rw [hverdict, frameEnds_invalid, hu]
  rfl

theorem reached_reply {r : ReplyFrame} (hline : s.line = .receiving { began := .window, counted := true, remainder := false })
    (hdecode : decodeFrame bytes = some (.reply r)) :
    ∃ u, TurnCounted a parts { s.heardEnd bytes with turn := s.turn.mine } u
      ∧ exec (.frameEnd bytes) s = .next (u.startsTurn.heardFrom r.source) := by
  obtain ⟨u, hcounted, hu⟩ := windowFrame_counted (s := s.heardEnd bytes) (f := some (.reply r)) hst ha hnext rfl
    (patienceEnds_moved hends rfl rfl rfl)
  refine ⟨u, hcounted, (exec_frameEnd hline hrequest hdecode fun _ _ => rfl).trans (congrArg Host.Outcome.next ?_)⟩
  exact hu

end

/-- The state in which the own REPLY sent is a turn end (R51, R69, R163). -/
def State.replySent (s : State) (r : ReplyFrame) : State :=
  { s.lowBefore (encodeFrame (.reply r)) with
    line := .quiet, turn := { s.turn with collided := 0 }
    counters := { s.counters with replySent := min (s.counters.replySent + 1) 65535 } }

theorem reached_ownReply {r : ReplyFrame} (hst : s.station = .online) (ha : a = s.turn.counter) (hnext : a + 1 = s.ownAddr)
    (hends : PatienceEnds s a parts) (hline : s.line = .sending (.reply r)) :
    ∃ u, TurnCounted a parts { s.replySent r with turn := { s.turn.mine with collided := 0 } } u
      ∧ exec .ownFrameEnd s = .next u.startsTurn := by
  obtain ⟨u, hcounted, hu⟩ := turnEnd_counted (s := s.replySent r) (way := .byAnswer (some (.reply r))) hst ha hnext
    (by simp) (patienceEnds_moved hends rfl rfl rfl)
  refine ⟨u, hcounted, (exec_ownFrameEnd hline).trans (congrArg Host.Outcome.next ?_)⟩
  rw [← hu, State.replySent, ← countUp_eq]
  rfl

/-! ## A PASS that reaches the own turn (R62, R64, R66, R73) -/

theorem openPass_counted (hst : s.station = .online) (hcounter : s.turn.counter = b) (hnext : b + 1 = s.ownAddr)
    (hends : PatienceEnds s b parts) :
    ∃ u, TurnCounted b parts { s with turn := s.turn.mine } u ∧ s.openTurn (.pass b) = u.startsTurn := by
  subst hcounter
  exact ⟨{ s.turnPasses with turn := s.turn.mine }, turnPasses_mine hends, openPass_reached hst hnext _⟩

theorem patienceEnds_heard (hheard : SourceHeard b s t) (hends : PatienceEnds s a parts) : PatienceEnds t a parts :=
  ending_heard hheard hends

/-- A PASS in the gap, in turn or slipping, whose turn end reaches the own turn. -/
theorem reached_passInGap (hdecode : decodeFrame bytes = some (.pass b)) (hnext : b + 1 = s.ownAddr)
    (hhear : onlineHearing s .gap = true) (hends : PatienceEnds s b parts) :
    ∃ v, SourceHeard b s v
      ∧ ∃ u, TurnCounted b parts { v with
          line := .quiet, sinceLow := trailingHigh (bytes.getLastD 0) * Config.bitTime s.cfg.rate
          counters := if b ≠ s.turn.counter then { s.counters with slips := min (s.counters.slips + 1) 65535 } else s.counters
          events := { s.events with slip := s.events.slip || decide (b ≠ s.turn.counter) }
          turn := TurnControl.mine (if b ≠ s.turn.counter then s.turn.slipped b else s.turn) } u
        ∧ exec (.frameEnd bytes) s = .next u.startsTurn := by
  obtain ⟨hst, -, -⟩ := onlineHearing_iff.mp hhear
  have hheard := heardFrom_spec (s.heardEnd bytes) b
  rw [exec_frameEnd_gap hhear hdecode (.inl rfl)]
  generalize (s.heardEnd bytes).heardFrom b = x at *
  obtain ⟨hframe, -, -⟩ := id hheard
  have hxends : PatienceEnds x b parts := patienceEnds_heard hheard (patienceEnds_moved hends rfl rfl rfl)
  have hxst : x.station = .online := by rw [hframe]; exact hst
  have hxnext : b + 1 = x.ownAddr := by rw [hframe]; exact hnext
  have hxturn : x.turn = s.turn := by rw [hframe]; rfl
  refine ⟨{ s with roster := x.roster, tx := x.tx }, sourceHeard_moved hheard ⟨rfl, rfl, rfl⟩ ⟨rfl, rfl⟩ rfl, ?_⟩
  by_cases hslips : b ≠ s.turn.counter
  · obtain ⟨u, hcounted, hu⟩ := openPass_counted (s := x.slipTo b) (b := b) hxst rfl hxnext (patienceEnds_moved hxends rfl rfl rfl)
    refine ⟨u, ?_, congrArg Host.Outcome.next ?_⟩
    · have hstate : { x.slipTo b with turn := (x.slipTo b).turn.mine } = { s with
          roster := x.roster, tx := x.tx, line := .quiet
          sinceLow := trailingHigh (bytes.getLastD 0) * Config.bitTime s.cfg.rate
          counters := { s.counters with slips := min (s.counters.slips + 1) 65535 }
          events := { s.events with slip := true }, turn := (s.turn.slipped b).mine } := by
        rw [slipTo_eq, hframe]
        rfl
      rw [if_pos hslips, if_pos hslips, decide_eq_true hslips, Bool.or_true, ← hstate]
      exact hcounted
    · rw [holdTurn_slips (g := .pass b) (.inl (by rw [hxturn]; exact hslips))]
      exact hu
  · obtain ⟨u, hcounted, hu⟩ := openPass_counted (s := x) hxst (by rw [hxturn]; exact (not_not.mp hslips).symm) hxnext hxends
    refine ⟨u, ?_, congrArg Host.Outcome.next ?_⟩
    · have hstate : { x with turn := x.turn.mine } = { s with
          roster := x.roster, tx := x.tx, line := .quiet
          sinceLow := trailingHigh (bytes.getLastD 0) * Config.bitTime s.cfg.rate, turn := s.turn.mine } := by
        rw [hframe]
        rfl
      rw [if_neg hslips, if_neg hslips, decide_eq_false hslips, Bool.or_false, ← hstate]
      exact hcounted
    · rw [holdTurn_inTurn (g := .pass b) (by rw [hxturn]; exact not_not.mp hslips), hu]
      rfl

/-- A slip after a turn end that reached the own turn: that own turn ends too, which counts for quiet (R66, R68). -/
theorem slipped_marked (c : TurnControl) (reached : Prop) [Decidable reached] :
    TurnControl.mine (TurnControl.slipped
      { turnAfter c with ownTurn := if reached then true else (turnAfter c).ownTurn } b) =
    TurnControl.mine { c with
      counter := b, ownTurn := false
      quiet := if reached then (turnAfter c).quiet - 1 else (turnAfter c).quiet } := by
  split
  · rfl
  · rfl

/-- A PASS in a window: the window's turn ends by answer, then the PASS slips and its turn end reaches the own turn. -/
theorem reached_passInWindow (hdecode : decodeFrame bytes = some (.pass b)) (hnext : b + 1 = s.ownAddr)
    (hhear : onlineHearing s .window = true) (hends : PatienceEnds s s.turn.counter gone)
    (hout : s.turn.counter = s.ownAddr → nothingOutstanding s = true) :
    ∃ w, TurnCounted s.turn.counter gone s w
      ∧ ∃ v, SourceHeard b w v ∧ (PatienceEnds v b parts →
        ∃ u, TurnCounted b parts { v with
            line := .quiet, sinceLow := trailingHigh (bytes.getLastD 0) * Config.bitTime s.cfg.rate
            counters := { s.counters with slips := min (s.counters.slips + 1) 65535 }, events := { v.events with slip := true }
            turn := TurnControl.mine { s.turn with
              counter := b, ownTurn := false
              quiet := if s.turn.counter + 1 = s.ownAddr then (turnAfter s.turn).quiet - 1 else (turnAfter s.turn).quiet } } u
          ∧ exec (.frameEnd bytes) s = .next u.startsTurn) := by
  obtain ⟨hst, hline, hrequest⟩ := onlineHearing_iff.mp hhear
  have hcounted := turnPasses_counted (s := s.heardEnd bytes) (patienceEnds_moved hends rfl rfl rfl)
  rw [exec_frameEnd_window (.inl hst) hline hrequest hdecode (.inl rfl),
    endTurn_calm (s := s.heardEnd bytes) (way := .byAnswer (some (.pass b))) (by simp) hout]
  generalize (s.heardEnd bytes).turnPasses = p at *
  obtain ⟨hpframe, -, -⟩ := id hcounted
  have hpst : p.station = .online := by rw [hpframe]; exact hst
  have hheard := heardFrom_spec p.markOwnTurn b
  have hmark := markOwnTurn_online hpst
  refine ⟨{ s with rx := p.rx, descs := p.descs, queues := p.queues, events := p.events },
    turnCounted_moved hcounted ⟨rfl, rfl, rfl⟩ ⟨rfl, rfl, rfl⟩ (by rw [hpframe]; rfl), ?_⟩
  generalize p.markOwnTurn.heardFrom b = x at *
  obtain ⟨hframe, -, -⟩ := id hheard
  refine ⟨{ s with rx := p.rx, descs := p.descs, queues := p.queues, events := p.events, roster := x.roster, tx := x.tx },
    sourceHeard_moved hheard ?_ ⟨rfl, rfl⟩ rfl, fun hxends => ?_⟩
  · rw [hmark, hpframe]
    exact ⟨rfl, rfl, rfl⟩
  have hxst : x.station = .online := by rw [hframe, hmark]; exact hpst
  obtain ⟨u, hucounted, hu⟩ := openPass_counted (s := x.slipTo b) (b := b) (parts := parts) hxst rfl
    (by rw [slipTo_eq, hframe, hmark, hpframe]; exact hnext)
    (patienceEnds_moved hxends rfl (by rw [hframe, hmark]; rfl) (by rw [hframe, hmark]; rfl))
  refine ⟨u, ?_, congrArg Host.Outcome.next ?_⟩
  · have hstate : { x.slipTo b with turn := (x.slipTo b).turn.mine } = { s with
        rx := p.rx, descs := p.descs, queues := p.queues, roster := x.roster, tx := x.tx, line := .quiet
        sinceLow := trailingHigh (bytes.getLastD 0) * Config.bitTime s.cfg.rate
        counters := { s.counters with slips := min (s.counters.slips + 1) 65535 }, events := { p.events with slip := true }
        turn := TurnControl.mine { s.turn with
          counter := b, ownTurn := false
          quiet := if s.turn.counter + 1 = s.ownAddr then (turnAfter s.turn).quiet - 1 else (turnAfter s.turn).quiet } } := by
      have hturn : (x.slipTo b).turn.mine = TurnControl.mine { s.turn with
          counter := b, ownTurn := false
          quiet := if s.turn.counter + 1 = s.ownAddr then (turnAfter s.turn).quiet - 1 else (turnAfter s.turn).quiet } := by
        rw [slipTo_eq, hframe, hmark, hpframe]
        exact slipped_marked s.turn _
      rw [hturn, slipTo_eq, hframe, hmark, hpframe]
      rfl
    rw [← hstate]
    exact hucounted
  · have hust : u.station = .online := by
      obtain ⟨huframe, -⟩ := hucounted
      rw [huframe]
      exact hxst
    rw [hu, leaveAfter_online (startsTurn_station hust)]
    rfl

/-- A PASS adopted while LISTENING whose turn end reaches the own turn (R73). -/
theorem reached_passAdopted {k : Heard} (hrequest : s.request = none) (hdecode : decodeFrame bytes = some (.pass b))
    (hnext : b + 1 = s.ownAddr) (hst : s.station = .listening) (hline : s.line = .receiving k) (hends : PatienceEnds s b parts) :
    ∃ v, SourceHeard b s v
      ∧ ∃ u, TurnCounted b parts { v with
          station := .online, line := .quiet, sinceLow := trailingHigh (bytes.getLastD 0) * Config.bitTime s.cfg.rate
          turn := TurnControl.mine { s.turn with
            counter := b, ownTurn := false, quiet := if s.turn.flavour = .joining then 2 else 0 } } u
        ∧ exec (.frameEnd bytes) s = .next u.startsTurn := by
  have hheard := heardFrom_spec ((s.heardEnd bytes).adopted b) b
  rw [exec_frameEnd_listening hst hline hrequest hdecode (.inl rfl)]
  generalize ((s.heardEnd bytes).adopted b).heardFrom b = x at *
  obtain ⟨hframe, -, -⟩ := id hheard
  obtain ⟨u, hcounted, hu⟩ := openPass_counted (s := x) (b := b) (parts := parts) (by rw [hframe]; rfl) (by rw [hframe]; rfl)
    (by rw [hframe]; exact hnext) (patienceEnds_heard hheard (patienceEnds_moved hends rfl rfl rfl))
  refine ⟨{ s with roster := x.roster, tx := x.tx }, sourceHeard_moved hheard ⟨rfl, rfl, rfl⟩ ⟨rfl, rfl⟩ rfl, u, ?_,
    congrArg Host.Outcome.next ?_⟩
  · have hstate : { x with turn := x.turn.mine } = { s with
        roster := x.roster, tx := x.tx, station := .online, line := .quiet
        sinceLow := trailingHigh (bytes.getLastD 0) * Config.bitTime s.cfg.rate
        turn := TurnControl.mine { s.turn with
          counter := b, ownTurn := false, quiet := if s.turn.flavour = .joining then 2 else 0 } } := by
      rw [hframe]
      rfl
    rw [← hstate]
    exact hcounted
  · rw [hu]
    rfl

/-! ## Conditions of the start, carried over -/

/-- While the absence counts of other channels are raised, the channel still counts its absence. -/
theorem countsAbsent_raising {n : ChanId} (hw : w = { u with tx := w.tx }) (hwn : w.txc n = u.txc n) :
    countsAbsent w n = countsAbsent u n :=
  countsAbsent_congr hwn (by rw [hw]) fun _ _ => by rw [hw]; rfl

theorem shapeOk_eq_false {h : DescId} {ms : List DescId}
    (hbad : (∃ d ∈ (h :: ms).dropLast, (s.desc d).fill ≠ 64)
      ∨ ∃ d, (h :: ms).getLast? = some d ∧ (64 < (s.desc d).fill ∨ ms ≠ [] ∧ (s.desc d).fill = 0)) :
    shapeOk (s.fills (h :: ms)) = false := by
  rw [Bool.eq_false_iff, ne_eq, shapeOk_iff]
  rintro ⟨hfull, hlast⟩
  obtain ⟨d, hd, hnot⟩ | ⟨d, hd, hnot⟩ := hbad
  · exact hnot (hfull d hd)
  · obtain ⟨hle, hge⟩ := hlast d hd
    obtain hover | ⟨hms, hzero⟩ := hnot
    · exact absurd hover (Nat.not_lt.mpr hle)
    · exact absurd hzero (Nat.one_le_iff_ne_zero.mp (hge hms))

/-! ## Every way to the own turn, and what it sends -/

/-- Settles O42: the turn end or station heard comes first (`reached_…`), then the own turn start, which counts absence, scans
and sends (`ownTurnStarts_…`). -/
theorem ownTurnChoosesFrame : Obligations.OwnTurnChoosesFrame := by
  refine ⟨fun s a parts hst hrequest ha hnext hends => ⟨?_, ?_, ?_, ?_, ?_, ?_, ?_⟩,
    fun s bytes b parts hrequest hdecode hnext => ⟨?_, ?_, ?_⟩, fun u => ⟨?_, ?_, ?_, ?_⟩⟩
  · exact reached_windowExpiry hst hrequest ha hnext hends
  · exact reached_gapExpiry hst hrequest ha hnext hends
  · intro msgs rest hline htimer hpresent hmisses htwice
    obtain ⟨v, hmissed, hv⟩ := turnEnd_missedTwice hst ha hnext hpresent hmisses htwice
    exact ⟨v, hmissed, (exec_turnGapExpiry hst hline hrequest htimer).trans (congrArg Host.Outcome.next hv)⟩
  · exact fun k hline hbegan => reached_idleFrameEnd hst hrequest ha hnext hends hline hbegan
  · exact fun bytes hline => reached_invalidFrame hst hrequest ha hnext hends hline
  · intro bytes r hline hdecode
    obtain ⟨u, hcounted, hu⟩ := reached_reply hst hrequest ha hnext hends hline hdecode
    exact ⟨u, hcounted, _, heardFrom_spec _ _, hu⟩
  · exact fun r hline => reached_ownReply hst ha hnext hends hline
  · exact fun hhear hends => reached_passInGap hdecode hnext hhear hends
  · exact fun gone hhear hends hout => reached_passInWindow hdecode hnext hhear hends hout
  · exact fun k hst hline hends => reached_passAdopted hrequest hdecode hnext hst hline hends
  · exact fun hbelow hpassed => ownTurnStarts_pass (fun m => hbelow m trivial) hpassed
  · intro n df h ms hbelow hpassed hcounts habsence hd hchain hothers handed
    refine ⟨fun hm => ?_, fun rest hm hqueue => ?_⟩
    · refine ownTurnStarts_absent (before := u.queue) (c := (u.txc n).absentFailed) hchain hbelow hpassed hd hcounts hothers
        (fun _ _ => rfl) hd fun w hw hwn => ⟨w, rfl, fun q => by rw [hw]; rfl, ?_⟩
      have hwcounts := (countsAbsent_raising hw hwn).trans hcounts
      rw [advanceAbsence_inHand (by rw [hwn]; exact hd) hwcounts (by rw [hwn]; exact habsence) (by rw [hwn]; exact hm), hwn]
    · refine ownTurnStarts_absent (before := fun q => if q = df.submit then rest else u.queue q)
        (c := { u.txc n with absence := 0 }) hchain hbelow hpassed hd hcounts hothers (fun q hq => if_neg hq) hd
        fun w hw hwn => ⟨w.setQueue df.submit rest, rfl, fun q => ?_, ?_⟩
      · have hwqueue : w.queue q = u.queue q := by rw [hw]; rfl
        rw [State.queue_setQueue, if_eq_comm, hwqueue]
      · have hwcounts := (countsAbsent_raising hw hwn).trans hcounts
        have hwqueue : w.queue df.submit = h :: rest := by rw [hw]; exact hqueue
        rw [advanceAbsence_waiting (by rw [hwn]; exact hd) hwcounts (by rw [hwn]; exact habsence) (by rw [hwn]; exact hm) hwqueue,
          hwn]
  · intro k n df hcursor hk hbelow hskip hentry hd hpresent next frame
    refine ⟨fun h d hactive hm hcur => ?_, fun h ms rest hidle hqueue hchain hfull hlast => ?_⟩
    · exact ownTurnStarts_active hcursor hk (fun m => hbelow m trivial) hentry hd hpresent hskip hactive hm hcur
    · exact ownTurnStarts_taken hcursor hk (fun m => hbelow m trivial) hentry hd hpresent hskip hidle hqueue hchain
        ((shapeOk_iff u h ms).mpr ⟨hfull, hlast⟩)
  · intro k n df h ms hcursor hk hbelow hentry hothers hd hpresent hidle hqueue hchain hbad hrq hrqOthers
    refine ownTurnStarts_malformed hcursor hk (fun m => hbelow m trivial) hentry hothers hd hpresent hidle hqueue hchain ?_ hrq
      hrqOthers
    exact shapeOk_eq_false hbad

end Sys2Proof.Machine
end

section
/-! PROOFS. The reply decision, case by case in the order of R115: closed, seen, shape violations and strays, another source's
message, starvation, and discarded segments (R13, R114 to R119, R123 to R126, R128). -/

namespace Sys2Proof.Machine

open Sys2Proof.Safety

variable {s t u v : State} {bytes : List Byte} {n : ChanId} {f : DataFrame} {df : RxDef} {parts : List DescId}

/-! ## Channels and tallies written -/

theorem setRx_rxc (s : State) (n m : ChanId) (c : RxChan) : (s.setRx n c).rxc m = if m = n then c else s.rxc m := by
  rw [State.rxc_setRx, if_eq_comm]

theorem recordTally_tallyOf (s : State) (n : ChanId) (f : DataFrame) (m : ChanId) (a : Station) :
    (s.recordTally n f).tallyOf m a = if m = n ∧ a = f.source then some f.tally else s.tallyOf m a := by
  unfold State.recordTally
  rw [State.tallyOf_setTally]
  simp only [eq_comm (a := n), eq_comm (a := f.source)]

/-! ## A DATA frame for the station (R50, R59, R114) -/

/-- The state on which a DATA frame in turn is decided: its source heard and its response window open (R50, R62, R80). -/
def State.dataHeard (s : State) (bytes : List Byte) (f : DataFrame) : State :=
  { s.setRoster f.source heard with
    line := .quiet, turn := { s.turn with timer := .responseWindow }
    sinceLow := trailingHigh (bytes.getLastD 0) * Config.bitTime s.cfg.rate }

theorem exec_dataForStation (hhear : onlineHearing s .gap = true) (hquiet : s.turn.quiet = 0)
    (hdecode : decodeFrame bytes = some (.data f)) (hsource : f.source = s.turn.counter) (hother : f.source ≠ s.ownAddr)
    (hdest : f.destination = s.ownAddr) (hpresent : (s.rosterOf f.source).state ≠ .absent) :
    exec (.frameEnd bytes) s = .next { ((s.dataHeard bytes f).replyDecision f.channel f).2 with
      request := some (.reply (replyTo s.ownAddr f ((s.dataHeard bytes f).replyDecision f.channel f).1)) } := by
  obtain ⟨hst, -, -⟩ := onlineHearing_iff.mp hhear
  rw [exec_frameEnd_gap hhear hdecode (.inr ⟨f, rfl, rfl⟩), heardFrom_present (s := s.heardEnd bytes) hother hpresent,
    holdTurn_inTurn (s := (s.heardEnd bytes).setRoster f.source heard) (g := .data f) hsource]
  exact congrArg Host.Outcome.next (if_pos ⟨hdest, hst, hquiet⟩)

theorem dataHeard_rosterOf (s : State) (bytes : List Byte) (f : DataFrame) (b : Station) :
    (s.dataHeard bytes f).rosterOf b = if b = f.source then heard else s.rosterOf b := rosterOf_heard s f.source b

/-! ## The order of the decision (R115 to R123) -/

theorem replyDecision_closed (h : (s.rxc n).defn = none ∨ (s.rxc n).state = .disabled ∨ (s.rxc n).state = .halted) :
    s.replyDecision n f = (.closed, s) := by
  unfold State.replyDecision
  dsimp only
  cases hd : (s.rxc n).defn with
  | none => rfl
  | some df => exact if_pos (h.resolve_left (by rw [hd]; nofun))

section
variable (hd : (s.rxc n).defn = some df) (hopen : (s.rxc n).state ≠ .disabled ∧ (s.rxc n).state ≠ .halted)
include hd hopen

theorem replyDecision_seen (hseen : s.tallyOf n f.source = some f.tally) : s.replyDecision n f = (.seen, s.seenAgain n f) := by
  unfold State.replyDecision
  dsimp only
  rw [hd]
  exact (if_neg (not_or.mpr hopen)).trans (if_pos hseen)

variable (hnew : s.tallyOf n f.source ≠ some f.tally)
include hnew

theorem replyDecision_violated (hbad : shapeViolation (s.rxc n) f = true) : s.replyDecision n f = (.lost, s.violated n f) := by
  unfold State.replyDecision
  dsimp only
  rw [hd]
  exact (if_neg (not_or.mpr hopen)).trans ((if_neg hnew).trans (if_pos hbad))

variable (hshape : ¬ shapeViolation (s.rxc n) f = true)
include hshape

/-- A FIRST segment of the message shape: another source's message, a restart, or a start (R119 to R121). -/
theorem replyDecision_first (hfirst : f.label ≠ none) :
    s.replyDecision n f =
      if (s.rxc n).busy && !((s.rxc n).busyFrom f.source) then (.later, s)
      else if (s.rxc n).assemblingFrom f.source then (s.abandonTo n .idle).decideFirst n df f else s.decideFirst n df f := by
  unfold State.replyDecision
  dsimp only
  rw [hd]
  exact (if_neg (not_or.mpr hopen)).trans ((if_neg hnew).trans ((if_neg hshape).trans
    (if_pos (Option.isSome_iff_ne_none.mpr hfirst))))

/-- A later segment of the message shape: of the assembly, of the discarded message, or a stray (R119, R122, R123). -/
theorem replyDecision_later (hlater : f.label = none) :
    s.replyDecision n f =
      if (s.rxc n).assemblingFrom f.source then
        match (s.rxc n).part with
        | some p => s.decideNext n df p f
        | none => (.lost, s)
      else if (s.rxc n).discardingFrom f.source then (.taken, s.discardNext n f) else (.lost, s) := by
  unfold State.replyDecision
  dsimp only
  rw [hd]
  refine (if_neg (not_or.mpr hopen)).trans ((if_neg hnew).trans ((if_neg hshape).trans ((if_neg ?_).trans ?_)))
  · rw [DataFrame.first, hlater]
    decide
  · rfl

end

/-! ## The conditions of the decision, read off (R118, R119) -/

theorem busyFrom_iff {c : RxChan} {a : Station} :
    c.busyFrom a = true ↔ (c.state = .assembling ∨ c.state = .discarding) ∧ c.source = some a := by
  simp [RxChan.busyFrom, RxChan.busy]

theorem assemblingFrom_iff {c : RxChan} {a : Station} :
    c.assemblingFrom a = true ↔ c.state = .assembling ∧ c.source = some a := by simp [RxChan.assemblingFrom]

theorem discardingFrom_iff {c : RxChan} {a : Station} :
    c.discardingFrom a = true ↔ c.state = .discarding ∧ c.source = some a := by simp [RxChan.discardingFrom]

theorem shapeViolation_iff {c : RxChan} :
    shapeViolation c f = true ↔ (f.last = false ∧ f.payload.length ≠ 64)
      ∨ (f.last = true ∧ f.label = none ∧ f.payload.length = 0)
      ∨ ((f.label = none ∧ c.state = .assembling ∧ c.source = some f.source) ∧ f.last = false
          ∧ ∃ p, c.part = some p ∧ p.count = 15) := by
  have hfirst : f.first = false ↔ f.label = none := by
    rw [DataFrame.first]
    cases f.label <;> simp
  unfold shapeViolation
  cases c.part with
  | none =>
    simp [hfirst, Config.bufferSize, and_assoc]
  | some p =>
    simp only [Bool.or_eq_true, Bool.and_eq_true, Bool.not_eq_true', bne_iff_ne, ne_eq, beq_iff_eq, hfirst,
      assemblingFrom_iff, Config.bufferSize, Config.partialLimit, Option.some.injEq, exists_eq_left', or_assoc, and_assoc]
    tauto

/-! ## Partials ended by the decision (R13, R118, R126, R128) -/

/-- The partial of a channel, or nothing, that the decision ends. -/
def PartOf (s : State) (n : ChanId) (parts : List DescId) : Prop := partialAt s (fun _ => true) n parts = true

theorem abandonTo_spec (hd : (s.rxc n).defn = some df) (hparts : PartOf s n parts) :
    s.abandonTo n .idle = { s with
      rx := (s.abandonTo n .idle).rx, descs := (s.abandonTo n .idle).descs, queues := (s.abandonTo n .idle).queues
      events := { s.events with abandon := true } }
    ∧ (∀ m, (s.abandonTo n .idle).rxc m = if m = n then afterAbandon (s.rxc n) else s.rxc m)
    ∧ (∀ q, (s.abandonTo n .idle).queue q = s.queue q ++ partialTo df parts q)
    ∧ ∀ e, (s.abandonTo n .idle).desc e = partialDesc s df parts e := by
  obtain ⟨hqueue, hdesc⟩ := returnPartial_at s n _ parts rfl hparts
  obtain ⟨hq, he⟩ := abandonTo_returns s n .idle
  refine ⟨abandonTo_frame s n .idle, fun m => abandonTo_rxc_min s n m .idle, fun q => ?_, fun e => ?_⟩
  · rw [hq, hqueue, hd]
  · rw [he, hdesc, hd]

/-- A channel that throws the rest of a message away (R123, R126). -/
def RxChan.discarded (c : RxChan) (f : DataFrame) : RxChan :=
  { c with state := if f.last then .idle else .discarding, source := if f.last then none else some f.source,
           part := none, idle := 0, progress := true }

theorem dropSegment_spec (hd : (s.rxc n).defn = some df) (hparts : PartOf s n parts) :
    s.dropSegment n f = { s with
      rx := (s.dropSegment n f).rx, tallies := (s.dropSegment n f).tallies, descs := (s.dropSegment n f).descs
      queues := (s.dropSegment n f).queues, events := { s.events with drop := true } }
    ∧ (∀ m, (s.dropSegment n f).rxc m =
        if m = n then { (s.rxc n).discarded f with drops := min ((s.rxc n).drops + 1) 255 } else s.rxc m)
    ∧ (∀ m a, (s.dropSegment n f).tallyOf m a = if m = n ∧ a = f.source then some f.tally else s.tallyOf m a)
    ∧ (∀ q, (s.dropSegment n f).queue q = s.queue q ++ partialTo df parts q)
    ∧ ∀ e, (s.dropSegment n f).desc e = partialDesc s df parts e := by
  obtain ⟨hqueue, hdesc⟩ := returnPartial_at s n _ parts rfl hparts
  have hframe := returnPartial_frame s n
  unfold State.dropSegment
  dsimp only
  generalize s.returnPartial n = u at *
  refine ⟨?_, fun m => ?_, fun m a => ?_, fun q => ?_, fun e => ?_⟩
  · rw [hframe]
    rfl
  · refine (setRx_rxc _ n m _).trans ?_
    have hrxc : ∀ m, (u.recordTally n f).rxc m = s.rxc m := fun m => by
      change u.rxc m = _
      rw [hframe]
      rfl
    rw [hrxc, hrxc, saturate_eq]
    rfl
  · refine (recordTally_tallyOf u n f m a).trans ?_
    rw [hframe]
    rfl
  · exact (hqueue q).trans (by rw [hd])
  · exact (hdesc e).trans (by rw [hd])

/-! ## Starvation (R124 to R126) -/

theorem poolPop_empty {q : QueueId} (h : s.queue q = []) : s.poolPop q = none := by
  unfold State.poolPop
  rw [h]

theorem replyDecision_starves (hd : (s.rxc n).defn = some df)
    (hopen : (s.rxc n).state ≠ .disabled ∧ (s.rxc n).state ≠ .halted) (hnew : s.tallyOf n f.source ≠ some f.tally)
    (hshape : ¬ shapeViolation (s.rxc n) f = true)
    (hstarved : f.label ≠ none ∧ ((s.rxc n).state = .idle ∨ (s.rxc n).state = .discarding ∧ (s.rxc n).busyFrom f.source = true)
        ∧ s.queue df.headPool = []
      ∨ (f.label = none ∧ (s.rxc n).state = .assembling ∧ (s.rxc n).source = some f.source) ∧ (s.rxc n).part ≠ none
        ∧ s.queue df.bodyPool = []) :
    s.replyDecision n f = s.starve n df.policy f := by
  obtain ⟨hfirst, hstate, hpool⟩ | ⟨⟨hlater, hassembling⟩, hpart, hpool⟩ := hstarved
  · have hidle : ¬ ((s.rxc n).busy && !((s.rxc n).busyFrom f.source)) = true := by
      obtain hidle | ⟨-, hfrom⟩ := hstate
      · simp [RxChan.busy, hidle]
      · simp [hfrom]
    have hnot : ¬ (s.rxc n).assemblingFrom f.source = true := by
      rw [assemblingFrom_iff]
      obtain hidle | ⟨hdiscarding, -⟩ := hstate
      · simp [hidle]
      · simp [hdiscarding]
    rw [replyDecision_first hd hopen hnew hshape hfirst, if_neg hidle, if_neg hnot, State.decideFirst, poolPop_empty hpool]
  · obtain ⟨p, hp⟩ := Option.ne_none_iff_exists'.mp hpart
    rw [replyDecision_later hd hopen hnew hshape hlater, if_pos (assemblingFrom_iff.mpr hassembling), hp]
    dsimp only
    rw [State.decideNext, poolPop_empty hpool]

/-! ## Discarded segments (R117, R123) -/

theorem seenAgain_eq (s : State) (n : ChanId) (f : DataFrame) :
    s.seenAgain n f = { s with rx := (s.seenAgain n f).rx }
    ∧ ∀ m, (s.seenAgain n f).rxc m =
        if m = n ∧ ((s.rxc n).state = .assembling ∨ (s.rxc n).state = .discarding) ∧ (s.rxc n).source = some f.source then
          { s.rxc m with idle := 0, progress := true }
        else s.rxc m := by
  unfold State.seenAgain
  by_cases hfrom : (s.rxc n).busyFrom f.source = true
  · rw [if_pos hfrom]
    refine ⟨rfl, fun m => ?_⟩
    rw [setRx_rxc]
    by_cases hmn : m = n
    · rw [if_pos hmn, if_pos ⟨hmn, busyFrom_iff.mp hfrom⟩, hmn]
    · rw [if_neg hmn, if_neg fun h => hmn h.1]
  · rw [if_neg hfrom]
    exact ⟨rfl, fun m => (if_neg fun h => hfrom (busyFrom_iff.mpr h.2)).symm⟩

theorem discardNext_eq (hstate : (s.rxc n).state = .discarding) (hsource : (s.rxc n).source = some f.source)
    (hpart : (s.rxc n).part = none) :
    s.discardNext n f = { s with rx := (s.discardNext n f).rx, tallies := (s.discardNext n f).tallies }
    ∧ (∀ m, (s.discardNext n f).rxc m = if m = n then (s.rxc n).discarded f else s.rxc m)
    ∧ ∀ m a, (s.discardNext n f).tallyOf m a = if m = n ∧ a = f.source then some f.tally else s.tallyOf m a := by
  refine ⟨rfl, fun m => (setRx_rxc _ n m _).trans ?_, recordTally_tallyOf s n f⟩
  have hdiscarded : (if f.last then { { s.rxc n with idle := 0, progress := true } with state := .idle, source := none }
      else { s.rxc n with idle := 0, progress := true }) = (s.rxc n).discarded f := by
    unfold RxChan.discarded
    rw [← hpart]
    cases f.last with
    | true => rfl
    | false =>
      simp only [Bool.false_eq_true, if_false]
      rw [← hstate, ← hsource]
  rw [← hdiscarded]
  rfl

/-! ## The obligations -/

/-- Settles O32: the answer CLOSED leaves the channel as it is, the answer SEEN marks progress from the same source. -/
theorem closedAndSeenStoreNothing : Obligations.ClosedAndSeenStoreNothing := by
  intro bytes s f hhear hquiet hdecode hsource hother hdest hpresent c answered
  have hexec := exec_dataForStation hhear hquiet hdecode hsource hother hdest hpresent
  refine ⟨fun hclosed => ?closed, fun hd hdisabled hhalted hseen => ?seen⟩
  case closed =>
    rw [replyDecision_closed (s := s.dataHeard bytes f) hclosed] at hexec
    exact ⟨_, hexec, ⟨rfl, dataHeard_rosterOf s bytes f⟩, fun _ => rfl⟩
  case seen =>
    obtain ⟨df, hd⟩ := Option.ne_none_iff_exists'.mp hd
    obtain ⟨hframe, hrxc⟩ := seenAgain_eq (s.dataHeard bytes f) f.channel f
    rw [replyDecision_seen (s := s.dataHeard bytes f) hd ⟨hdisabled, hhalted⟩ hseen] at hexec
    dsimp only at hexec
    generalize (s.dataHeard bytes f).seenAgain f.channel f = v at *
    refine ⟨_, hexec, ⟨?_, fun b => ?_⟩, hrxc⟩
    · rw [hframe]
      rfl
    · rw [hframe]
      exact dataHeard_rosterOf s bytes f b

/-- Settles O33: the frame takes the decision (`exec_dataForStation`), and the decision is read off in the order of R115. -/
theorem replyDecisionWithoutStoring : Obligations.ReplyDecisionWithoutStoring := by
  refine ⟨fun bytes s f hhear hquiet hdecode hsource hother hdest hpresent =>
    exec_dataForStation hhear hquiet hdecode hsource hother hdest hpresent, fun s f df => ?_⟩
  intro n c fromHere later badShape recorded discarding hd hdisabled hhalted hnew
  have hopen : (s.rxc n).state ≠ .disabled ∧ (s.rxc n).state ≠ .halted := ⟨hdisabled, hhalted⟩
  have hbad : shapeViolation (s.rxc n) f = true ↔ badShape := shapeViolation_iff
  refine ⟨fun hshape hfrom => ?lost, fun parts hshape hfrom hparts => ?ended, fun hshape hfirst hbusy hfrom => ?other,
    fun hshape hlater hfrom => ?stray, fun hshape hstarved => ?starved, fun hshape hlater hstate hfrom hpart => ?discards⟩
  case lost =>
    rw [replyDecision_violated hd hopen hnew (hbad.mpr hshape), State.violated, if_neg hfrom]
  case ended =>
    rw [replyDecision_violated hd hopen hnew (hbad.mpr hshape), State.violated, if_pos hfrom]
    exact ⟨_, rfl, abandonTo_spec hd hparts⟩
  case other =>
    rw [replyDecision_first hd hopen hnew (mt hbad.mp hshape) hfirst]
    exact if_pos (by rw [Bool.and_eq_true, Bool.not_eq_true', Bool.eq_false_iff]; exact ⟨hbusy, hfrom⟩)
  case stray =>
    rw [replyDecision_later hd hopen hnew (mt hbad.mp hshape) hlater,
      if_neg fun h => hfrom (busyFrom_iff.mpr ((assemblingFrom_iff.mp h).imp_left .inl)),
      if_neg fun h => hfrom (busyFrom_iff.mpr ((discardingFrom_iff.mp h).imp_left .inr))]
  case starved =>
    rw [replyDecision_starves hd hopen hnew (mt hbad.mp hshape) hstarved]
    refine ⟨fun hpolicy => ?_, fun parts hpolicy hparts => ?_⟩
    · rw [hpolicy]
      rfl
    · rw [hpolicy]
      exact ⟨_, rfl, dropSegment_spec hd hparts⟩
  case discards =>
    obtain ⟨-, hsource⟩ := busyFrom_iff.mp hfrom
    rw [replyDecision_later hd hopen hnew (mt hbad.mp hshape) hlater,
      if_neg fun h => by rw [assemblingFrom_iff, hstate] at h; exact absurd h.1 (by decide),
      if_pos (discardingFrom_iff.mpr ⟨hstate, hsource⟩)]
    obtain ⟨hframe, hrxc, hrecorded⟩ := discardNext_eq hstate hsource hpart
    exact ⟨_, rfl, hframe, hrxc, hrecorded⟩

end Sys2Proof.Machine
end

section
/-! PROOFS. Segments stored and messages delivered: the pool descriptor that takes a segment, the partial that begins or grows,
and the delivery that ends it (R2, R3, R6, R11 to R13, R33, R112, R114, R118, R120 to R122, R127, R128). -/

namespace Sys2Proof.Machine

open Sys2Proof.Safety

variable {s t u v w x y : State} {bytes : List Byte} {n : ChanId} {f : DataFrame} {df : RxDef} {parts rest : List DescId}
  {d : DescId} {q : QueueId}

/-! ## A segment stored in a pool's oldest descriptor (R2, R3, R11, R33, R112) -/

/-- `y` differs from `w` in the descriptor `d` taken from the pool `q`, the segment stored in it, and its tally recorded. -/
def Stored (w : State) (n : ChanId) (f : DataFrame) (q : QueueId) (d : DescId) (rest : List DescId) (y : State) : Prop :=
  y = { w with descs := y.descs, queues := y.queues, tallies := y.tallies, mem := y.mem }
  ∧ (∀ m a, y.tallyOf m a = if m = n ∧ a = f.source then some f.tally else w.tallyOf m a)
  ∧ (∀ r, y.queue r = if r = q then rest ++ (w.desc d).next.toList else w.queue r)
  ∧ (∀ e, y.desc e =
      if e = d then { w.desc d with fill := f.payload.length, next := none, owner := .building n }
      else if (w.desc d).next = some e then { w.desc e with owner := .queued q } else w.desc e)
  ∧ ∀ a : Nat, y.mem.read a =
      if 64 * d.val ≤ a ∧ a < 64 * d.val + f.payload.length then f.payload.getD (a - 64 * d.val) 0 else w.mem.read a

/-- A segment stored and its tally recorded (R2, R112). -/
theorem segment_stored (hpool : w.queue q = d :: rest) (hwf : w.mem.wf = true) (hfits : f.payload.length ≤ 64) (n : ChanId) :
    ∃ x, w.poolPop q = some (d, x) ∧ x.rx = w.rx ∧ Stored w n f q d rest ((x.storeSegment n d f).recordTally n f) := by
  obtain ⟨-, hempty⟩ | ⟨h, l, x, hpop, hq, hframe, hqueue, hhead, hother⟩ := poolPop_cases (s := w) q
  · rw [hpool] at hempty
    cases hempty
  obtain ⟨rfl, rfl⟩ := List.cons_eq_cons.mp (hpool.symm.trans hq)
  refine ⟨x, hpop, by rw [hframe], ?_, fun m a => ?_, fun r => ?_, fun e => ?_, fun a => ?_⟩
  · generalize hy : (x.storeSegment n d f).recordTally n f = y
    rw [← hy, State.recordTally, State.storeSegment, hframe]
    rfl
  · rw [recordTally_tallyOf, hframe]
    rfl
  · refine (hqueue r).trans ?_
    rw [if_eq_comm]
    cases (w.desc d).next with
    | none => simp
    | some e => simp
  · change (State.setDesc (x.writeBuffer d 0 f.payload) d _).desc e = _
    rw [State.desc_setDesc, if_eq_comm]
    by_cases he : e = d
    · rw [if_pos he, if_pos he, State.desc_writeBuffer_other, hhead]
    · rw [if_neg he, if_neg he, State.desc_writeBuffer_other, hother e he]
  · have hmem : x.mem = w.mem := by rw [hframe]
    have hread := writeBuffer_read x d 0 f.payload (by rw [hmem]; exact hwf) (by rw [Config.bufferSize]; omega) a
    have haddr : bufferAddr d 0 = 64 * d.val := by simp [bufferAddr, Config.bufferSize, Nat.mul_comm]
    rw [haddr, hmem] at hread
    exact hread

/-! ## Delivery (R6, R12, R127) -/

theorem deliver_spec {p : Assembly} {ms : List DescId} (hd : (u.rxc n).defn = some df) (hp : (u.rxc n).part = some p)
    (hchain : isChain u (p.head :: ms) = true) (src : Station) :
    u.deliver n src = { u with
      rx := (u.deliver n src).rx, descs := (u.deliver n src).descs, queues := (u.deliver n src).queues }
    ∧ (∀ m, (u.deliver n src).rxc m = if m = n then (u.rxc n).atRest .idle else u.rxc m)
    ∧ (∀ r, (u.deliver n src).queue r = u.queue r ++ (if r = df.delivery then [p.head] else []))
    ∧ ∀ e, (u.deliver n src).desc e =
        if e = p.head then
          { deliveredRecord (u.desc p.head) src n (u.rxc n).label p with owner := .queued df.delivery }
        else if e ∈ ms then { u.desc e with owner := .linked } else u.desc e := by
  unfold State.deliver
  rw [hd, hp]
  dsimp only
  have hrec : ∀ e, ((u.setDesc p.head (deliveredRecord (u.desc p.head) src n (u.rxc n).label p)).desc e) =
      if e = p.head then deliveredRecord (u.desc p.head) src n (u.rxc n).label p else u.desc e := fun e => by
    rw [State.desc_setDesc, if_eq_comm]
  have hmembers : (u.setDesc p.head (deliveredRecord (u.desc p.head) src n (u.rxc n).label p)).chain p.head = p.head :: ms := by
    refine chain_of_isChain _ ((isChain_congr_next fun e _ => ?_).trans hchain)
    rw [hrec]
    split
    · next heq => rw [heq]; rfl
    · rfl
  have hframe : u.setDesc p.head (deliveredRecord (u.desc p.head) src n (u.rxc n).label p) = { u with
      descs := (u.setDesc p.head (deliveredRecord (u.desc p.head) src n (u.rxc n).label p)).descs } := rfl
  generalize u.setDesc p.head (deliveredRecord (u.desc p.head) src n (u.rxc n).label p) = r at *
  have hpush := pushChain_frame r df.delivery p.head
  refine ⟨?_, fun m => ?_, fun k => ?_, fun e => ?_⟩
  · rw [hpush, hframe]
    rfl
  · refine (setRx_rxc _ n m _).trans ?_
    rw [hpush, hframe]
    rfl
  · refine (pushChain_queue r df.delivery k p.head).trans ?_
    rw [if_eq_comm, hframe]
    split
    · next heq => rw [heq]; rfl
    · exact (List.append_nil _).symm
  · refine (pushChain_desc r df.delivery p.head e).trans ?_
    rw [hmembers, hrec, List.tail_cons]
    by_cases he : e = p.head
    · rw [if_pos he, if_pos he, if_pos he]
    · rw [if_neg he, if_neg he, if_neg he]
      split
      · rfl
      · rfl

/-! ## The first segment (R114, R120, R121, R127) -/

/-- The state in which a FIRST segment is stored: an assembly from its source has been abandoned (R120). -/
def State.restarted (s : State) (n : ChanId) : State :=
  if (s.rxc n).state = .assembling then s.abandonTo n .idle else s

theorem restarted_spec (hd : (s.rxc n).defn = some df)
    (hparts : partialAt s (fun c => c.state == .assembling) n parts = true) :
    s.restarted n = { s with
      rx := (s.restarted n).rx, descs := (s.restarted n).descs, queues := (s.restarted n).queues
      events := { s.events with abandon := s.events.abandon || decide ((s.rxc n).state = .assembling) } }
    ∧ (∀ m, (s.restarted n).rxc m =
        if m = n then (if (s.rxc n).state = .assembling then afterAbandon (s.rxc n) else s.rxc n) else s.rxc m)
    ∧ (∀ q, (s.restarted n).queue q = s.queue q ++ partialTo df parts q)
    ∧ ∀ e, (s.restarted n).desc e = partialDesc s df parts e := by
  unfold State.restarted
  by_cases hassembling : (s.rxc n).state = .assembling
  · have hends : PartOf s n parts := by
      unfold PartOf
      unfold partialAt at hparts ⊢
      dsimp only at hparts ⊢
      rwa [show ((s.rxc n).state == .assembling) = true from beq_iff_eq.mpr hassembling] at hparts
    rw [if_pos hassembling, if_pos hassembling, decide_eq_true hassembling, Bool.or_true]
    exact abandonTo_spec hd hends
  · have hnone : parts = [] := by
      unfold partialAt at hparts
      dsimp only at hparts
      rw [show ((s.rxc n).state == .assembling) = false from beq_eq_false_iff_ne.mpr hassembling, hd] at hparts
      cases hp : (s.rxc n).part with
      | none => simpa [hp] using hparts
      | some p => simpa [hp] using hparts
    rw [if_neg hassembling, if_neg hassembling, decide_eq_false hassembling, Bool.or_false, hnone]
    refine ⟨rfl, fun m => ?_, fun q => (List.append_nil _).symm, fun e => rfl⟩
    split
    · next heq => rw [heq]
    · rfl

/-- The context of a channel whose assembly has just begun (R121). -/
def RxChan.begun (c : RxChan) (f : DataFrame) (d : DescId) : RxChan :=
  { c with state := .assembling, source := some f.source, label := f.label.getD 0, idle := 0, progress := true,
           part := some { head := d, tail := d, count := 1, length := f.payload.length } }

theorem begun_restarted (c : RxChan) (f : DataFrame) (d : DescId) (assembling : Prop) [Decidable assembling] :
    (if assembling then afterAbandon c else c).begun f d =
      { c with state := .assembling, source := some f.source, label := f.label.getD 0, idle := 0, progress := true,
               part := some { head := d, tail := d, count := 1, length := f.payload.length },
               abandons := if assembling then min (c.abandons + 1) 255 else c.abandons } := by
  split
  · rfl
  · rfl

theorem decision_first (hd : (s.rxc n).defn = some df)
    (hstate : (s.rxc n).state = .idle ∨ (s.rxc n).busyFrom f.source = true) (hnew : s.tallyOf n f.source ≠ some f.tally)
    (hfirst : f.label ≠ none) (hshape : f.last = false → f.payload.length = 64) :
    s.replyDecision n f = (s.restarted n).decideFirst n df f := by
  have hopen : (s.rxc n).state ≠ .disabled ∧ (s.rxc n).state ≠ .halted := by
    obtain hidle | hfrom := hstate
    · rw [hidle]
      decide
    · obtain ⟨h | h, -⟩ := busyFrom_iff.mp hfrom
      · rw [h]
        decide
      · rw [h]
        decide
  have hgood : ¬ shapeViolation (s.rxc n) f = true := by
    rw [shapeViolation_iff]
    rintro (⟨hlast, hlen⟩ | ⟨-, hlater, -⟩ | ⟨⟨hlater, -⟩, -⟩)
    · exact hlen (hshape hlast)
    · exact hfirst hlater
    · exact hfirst hlater
  have hown : ¬ ((s.rxc n).busy && !((s.rxc n).busyFrom f.source)) = true := by
    obtain hidle | hfrom := hstate
    · simp [RxChan.busy, hidle]
    · simp [hfrom]
  rw [replyDecision_first hd hopen hnew hgood hfirst, if_neg hown, State.restarted]
  by_cases hassembling : (s.rxc n).state = .assembling
  · have hfrom := hstate.resolve_left (by rw [hassembling]; decide)
    rw [if_pos (assemblingFrom_iff.mpr ⟨hassembling, (busyFrom_iff.mp hfrom).2⟩), if_pos hassembling]
  · rw [if_neg fun h => hassembling (assemblingFrom_iff.mp h).1, if_neg hassembling]

theorem decideFirst_stores (hpool : w.queue df.headPool = d :: rest) (hwf : w.mem.wf = true) (hfits : f.payload.length ≤ 64) :
    ∃ y, Stored w n f df.headPool d rest y
      ∧ w.decideFirst n df f = (.taken,
          if f.last then (y.setRx n ((w.rxc n).begun f d)).deliver n f.source else y.setRx n ((w.rxc n).begun f d)) := by
  obtain ⟨x, hpop, hrx, hstored⟩ := segment_stored hpool hwf hfits n
  refine ⟨_, hstored, ?_⟩
  unfold State.decideFirst
  rw [hpop]
  dsimp only
  have hrxc : ((x.storeSegment n d f).recordTally n f).rxc n = w.rxc n := congrArg (look · n) hrx
  unfold State.acceptFirst
  dsimp only
  rw [hrxc]
  rfl

/-- The frame of a segment stored through the turn and roster step: what O29 to O31 have in common. -/
theorem exec_dataStored (hhear : onlineHearing s .gap = true) (hquiet : s.turn.quiet = 0)
    (hdecode : decodeFrame bytes = some (.data f)) (hsource : f.source = s.turn.counter) (hother : f.source ≠ s.ownAddr)
    (hdest : f.destination = s.ownAddr) (hpresent : (s.rosterOf f.source).state ≠ .absent) {abandon : Bool}
    (hdecides : (s.dataHeard bytes f).replyDecision f.channel f = (.taken, t))
    (hframe : t = { s.dataHeard bytes f with
      rx := t.rx, tallies := t.tallies, descs := t.descs, queues := t.queues, mem := t.mem
      events := { s.events with abandon := abandon } }) :
    ∃ t', exec (.frameEnd bytes) s = .next t'
      ∧ t' = { s with
          line := .quiet, turn := { s.turn with timer := .responseWindow }, roster := t'.roster, rx := t'.rx,
          tallies := t'.tallies, descs := t'.descs, queues := t'.queues, mem := t'.mem,
          events := { s.events with abandon := abandon },
          request := some (.reply { source := s.ownAddr, destination := f.source, channel := f.channel,
                                    tallyEcho := f.tally, code := .taken }),
          sinceLow := trailingHigh (bytes.getLastD 0) * Config.bitTime s.cfg.rate }
      ∧ (∀ b, t'.rosterOf b = if b = f.source then heard else s.rosterOf b)
      ∧ (∀ m, t'.rxc m = t.rxc m) ∧ (∀ m a, t'.tallyOf m a = t.tallyOf m a) ∧ (∀ q, t'.queue q = t.queue q)
      ∧ (∀ e, t'.desc e = t.desc e) ∧ ∀ a : Nat, t'.mem.read a = t.mem.read a := by
  have hexec := exec_dataForStation hhear hquiet hdecode hsource hother hdest hpresent
  rw [hdecides] at hexec
  refine ⟨_, hexec, ?_, fun b => ?_, fun _ => rfl, fun _ _ => rfl, fun _ => rfl, fun _ => rfl, fun _ => rfl⟩
  · rw [hframe]
    rfl
  · rw [hframe]
    exact dataHeard_rosterOf s bytes f b

/-- Settles O29: the assembly restarted is abandoned, and the segment begins a new one in the head pool's oldest descriptor. -/
theorem firstSegmentStored : Obligations.FirstSegmentStored := by
  intro bytes s f df l parts d rest hhear hquiet hwf hdecode hsource hother hdest hpresent hd hstate hparts hnew hlabel hlast
    hlen assembling back after hpool
  let v := s.dataHeard bytes f
  obtain ⟨hwframe, hwrxc, hwqueue, hwdesc⟩ := restarted_spec (s := v) (n := f.channel) hd
    ((partialAt_congr (s := s) (t := v) rfl fun _ _ => rfl).trans hparts)
  have hdecides := decision_first (s := v) hd hstate hnew (by rw [hlabel]; nofun) fun _ => hlen
  generalize v.restarted f.channel = w at *
  obtain ⟨y, ⟨hyframe, hytally, hyqueue, hydesc, hymem⟩, hstores⟩ := decideFirst_stores (w := w) (n := f.channel) (f := f)
    (df := df) ((hwqueue _).trans hpool) (by rw [hwframe]; exact hwf) (by rw [hlen])
  rw [hstores, hlast, if_neg Bool.false_ne_true] at hdecides
  have hback : ∀ e, w.desc e = back e := hwdesc
  obtain ⟨t, hexec, htframe, htroster, htrxc, httally, htqueue, htdesc, htmem⟩ := exec_dataStored hhear hquiet hdecode
    hsource hother hdest hpresent (abandon := s.events.abandon || decide assembling) hdecides
    (by rw [hyframe, hwframe]; rfl)
  refine ⟨t, hexec, htframe, htroster, fun m => ?_, fun m a => ?_, fun q => ?_, fun e => ?_, fun a => ?_⟩
  · have hyrxc : y.rxc m = w.rxc m := by rw [hyframe]; rfl
    rw [htrxc, setRx_rxc, hyrxc, hwrxc, hwrxc, if_pos rfl, begun_restarted, hlabel, hlen]
    by_cases hm : m = f.channel
    · rw [if_pos hm, if_pos hm, hm]
      rfl
    · rw [if_neg hm, if_neg hm, if_neg hm]
      rfl
  · refine (httally m a).trans ((hytally m a).trans ?_)
    rw [hwframe]
    rfl
  · refine (htqueue q).trans ((hyqueue q).trans ?_)
    rw [hwqueue, hback]
    rfl
  · refine (htdesc e).trans ((hydesc e).trans ?_)
    rw [hback, hback, hlen]
  · refine (htmem a).trans ((hymem a).trans ?_)
    rw [hlen, hwframe]
    rfl

/-- Settles O30: the one segment begins a partial, whose delivery makes its descriptor a RECEIVED head (`deliver_spec`). -/
theorem oneSegmentMessageDelivered : Obligations.OneSegmentMessageDelivered := by
  intro bytes s f df l parts d rest hhear hquiet hwf hdecode hsource hother hdest hpresent hd hstate hparts hnew hlabel hlast
    assembling back after hpool
  let v := s.dataHeard bytes f
  obtain ⟨hwframe, hwrxc, hwqueue, hwdesc⟩ := restarted_spec (s := v) (n := f.channel) hd
    ((partialAt_congr (s := s) (t := v) rfl fun _ _ => rfl).trans hparts)
  have hdecides := decision_first (s := v) hd hstate hnew (by rw [hlabel]; nofun) fun h => by rw [hlast] at h; cases h
  generalize v.restarted f.channel = w at *
  obtain ⟨y, ⟨hyframe, hytally, hyqueue, hydesc, hymem⟩, hstores⟩ := decideFirst_stores (w := w) (n := f.channel) (f := f)
    (df := df) ((hwqueue _).trans hpool) (by rw [hwframe]; exact hwf) (payload_length_le hdecode)
  have hback : ∀ e, w.desc e = back e := hwdesc
  have hwdefn : (w.rxc f.channel).defn = some df := by
    rw [hwrxc, if_pos rfl]
    split
    · exact hd
    · exact hd
  have hyrxc : ∀ m, y.rxc m = w.rxc m := fun m => by rw [hyframe]; rfl
  obtain ⟨hgframe, hgrxc, hgqueue, hgdesc⟩ := deliver_spec (u := y.setRx f.channel ((w.rxc f.channel).begun f d))
    (n := f.channel) (df := df) (p := { head := d, tail := d, count := 1, length := f.payload.length }) (ms := [])
    (by rw [setRx_rxc_self]; exact hwdefn) (by rw [setRx_rxc_self]; rfl)
    (isChain_iff.mpr ⟨beq_iff_eq.mpr (congrArg Desc.next ((hydesc d).trans (if_pos rfl))), List.nodup_singleton d, show 1 ≤ 16 by decide⟩)
    f.source
  rw [hstores, hlast, if_pos rfl] at hdecides
  rw [setRx_rxc_self] at hgrxc hgdesc
  generalize (y.setRx f.channel ((w.rxc f.channel).begun f d)).deliver f.channel f.source = g at *
  obtain ⟨t, hexec, htframe, htroster, htrxc, httally, htqueue, htdesc, htmem⟩ := exec_dataStored hhear hquiet hdecode
    hsource hother hdest hpresent (abandon := s.events.abandon || decide assembling) hdecides
    (by rw [hgframe, hyframe, hwframe]; rfl)
  refine ⟨t, hexec, htframe, htroster, fun m => ?_, fun m a => ?_, fun q => ?_, fun e => ?_, fun a => ?_⟩
  · rw [htrxc, hgrxc, setRx_rxc, hyrxc, hwrxc, hwrxc, if_pos rfl, begun_restarted, hlabel]
    by_cases hm : m = f.channel
    · rw [if_pos hm, if_pos hm, hm]
      rfl
    · rw [if_neg hm, if_neg hm, if_neg hm, if_neg hm]
      rfl
  · refine (httally m a).trans (Eq.trans (by rw [hgframe]; rfl) ((hytally m a).trans ?_))
    rw [hwframe]
    rfl
  · refine (htqueue q).trans ((hgqueue q).trans (congrArg (· ++ _) ((hyqueue q).trans ?_)))
    rw [hwqueue, hback]
    rfl
  · rw [htdesc, hgdesc, State.desc_setRx_other, State.desc_setRx_other]
    dsimp only
    by_cases he : e = d
    · rw [if_pos he, if_pos he, (hydesc d).trans (if_pos rfl), hback, RxChan.begun, hlabel]
      rfl
    · rw [if_neg he, if_neg he, if_neg List.not_mem_nil, (hydesc e).trans (if_neg he), hback, hback]
  · refine (htmem a).trans (Eq.trans (by rw [hgframe]; rfl) ((hymem a).trans ?_))
    rw [hwframe]
    rfl

end Sys2Proof.Machine
end

section
/-! PROOFS. A later segment linked after the tail of its assembly, which goes on or is delivered (R4, R6, R12, R112, R118, R122,
R127). -/

namespace Sys2Proof.Machine

open Sys2Proof.Safety

variable {s t u v w y : State} {bytes : List Byte} {n : ChanId} {f : DataFrame} {df : RxDef} {rest : List DescId}
  {d : DescId} {p : Assembly} {bs : List DescId}

/-! ## The decision on a later segment (R115, R122) -/

theorem decision_next (hd : (s.rxc n).defn = some df) (hstate : (s.rxc n).state = .assembling)
    (hsource : (s.rxc n).source = some f.source) (hp : (s.rxc n).part = some p) (hnew : s.tallyOf n f.source ≠ some f.tally)
    (hlater : f.label = none) (hshape : f.last = true ∧ f.payload.length ≠ 0 ∨ f.last = false ∧ f.payload.length = 64 ∧ p.count ≠ 15) :
    s.replyDecision n f = s.decideNext n df p f := by
  have hgood : ¬ shapeViolation (s.rxc n) f = true := by
    rw [shapeViolation_iff, hp]
    simp only [Option.some.injEq, exists_eq_left']
    rintro (⟨hlast, hlen⟩ | ⟨hlast, -, hlen⟩ | ⟨-, hlast, hcount⟩)
    · obtain ⟨hlast', -⟩ | ⟨-, hlen', -⟩ := hshape
      · exact absurd (hlast.symm.trans hlast') (by decide)
      · exact hlen hlen'
    · obtain ⟨-, hlen'⟩ | ⟨hlast', -⟩ := hshape
      · exact hlen' hlen
      · exact absurd (hlast.symm.trans hlast') (by decide)
    · obtain ⟨hlast', -⟩ | ⟨-, -, hcount'⟩ := hshape
      · exact absurd (hlast.symm.trans hlast') (by decide)
      · exact hcount' hcount
  rw [replyDecision_later hd (by rw [hstate]; decide) hnew hgood hlater, if_pos (assemblingFrom_iff.mpr ⟨hstate, hsource⟩), hp]

/-- The stored segment's descriptor linked after the partial's tail (R4, R122). -/
def State.linkedAfter (s : State) (x d : DescId) : State := s.setDesc x { s.desc x with next := some d }

theorem linkedAfter_desc (s : State) (x d e : DescId) :
    (s.linkedAfter x d).desc e = if e = x then { s.desc e with next := some d } else s.desc e := by
  rw [State.linkedAfter, State.desc_setDesc, if_eq_comm]
  split
  · next heq => rw [heq]
  · rfl

theorem decideNext_stores (hpool : s.queue df.bodyPool = d :: rest) (hwf : s.mem.wf = true) (hfits : f.payload.length ≤ 64) :
    ∃ y, Stored s n f df.bodyPool d rest y
      ∧ s.decideNext n df p f = (.taken,
          let u := (y.linkedAfter p.tail d).setRx n ((s.rxc n).joined (p.grown d f))
          if f.last then u.deliver n f.source else u) := by
  obtain ⟨x, hpop, hrx, hstored⟩ := segment_stored hpool hwf hfits n
  refine ⟨_, hstored, ?_⟩
  have hrxc : x.rxc n = s.rxc n := congrArg (look · n) hrx
  unfold State.decideNext
  rw [hpop]
  dsimp only
  rw [acceptNext_eq, hrxc]
  rfl

/-! ## The grown partial -/

section
variable (hstored : Stored s n f df.bodyPool d rest y)
  (htail : (p.head :: bs).getLast? = some p.tail) (hfresh : d ∉ p.head :: bs)
  (hfree : ∀ e, (s.desc d).next = some e → e ∉ p.head :: bs)
include hstored htail hfresh hfree

/-- Every descriptor once the segment has joined the assembly (R122). -/
theorem joinedSegment_desc (e : DescId) :
    (y.linkedAfter p.tail d).desc e =
      if e = d then { s.desc d with fill := f.payload.length, next := none, owner := .building n }
      else if e = p.tail then { s.desc e with next := some d }
      else if (s.desc d).next = some e then { s.desc e with owner := .queued df.bodyPool } else s.desc e := by
  obtain ⟨-, -, -, hdesc, -⟩ := hstored
  have hmem := List.mem_of_getLast? htail
  have hne : d ≠ p.tail := fun h => hfresh (h ▸ hmem)
  rw [linkedAfter_desc, hdesc]
  by_cases hd : e = d
  · rw [if_pos hd, if_pos hd, if_neg fun h => hne (hd ▸ h)]
  · rw [if_neg hd, if_neg hd]
    by_cases ht : e = p.tail
    · rw [if_pos ht, if_pos ht, if_neg fun h => hfree e h (ht ▸ hmem)]
    · rw [if_neg ht, if_neg ht]

/-- The members of the assembly before the segment keep everything but the tail's next. -/
theorem joinedSegment_member {e : DescId} (he : e ∈ p.head :: bs) :
    (y.linkedAfter p.tail d).desc e = { s.desc e with next := if p.tail = e then some d else (s.desc e).next } := by
  have hne : e ≠ d := fun h => hfresh (h ▸ he)
  rw [joinedSegment_desc hstored htail hfresh hfree, if_neg hne]
  by_cases ht : p.tail = e
  · rw [if_pos ht.symm, if_pos ht]
  · rw [if_neg (Ne.symm ht), if_neg fun h => hfree e h he, if_neg ht]

theorem joinedSegment_chain (hchain : isChain s (p.head :: bs) = true) (hroom : (p.head :: bs).length ≤ 15) :
    isChain (y.linkedAfter p.tail d) (p.head :: (bs ++ [d])) = true := by
  obtain ⟨hlinked, hnodup, -⟩ := isChain_iff.mp hchain
  have hdesc := fun e => joinedSegment_desc hstored htail hfresh hfree e
  have hmember := fun e he => joinedSegment_member hstored htail hfresh hfree (e := e) he
  have hleads : leadsTo (y.linkedAfter p.tail d) (p.head :: bs) d = true := by
    refine leadsTo_of_linked hlinked hnodup htail (fun e he hne => ?_) ?_
    · rw [hmember e he]
      exact if_neg (Ne.symm hne)
    · rw [hmember _ (List.mem_of_getLast? htail)]
      exact if_pos rfl
  refine isChain_iff.mpr ⟨linked_concat.mpr ⟨hleads, ?_⟩, ?_, ?_⟩
  · rw [hdesc, if_pos rfl]
  · exact hnodup.append (List.nodup_singleton d) (List.disjoint_singleton.mpr hfresh)
  · simp only [List.length_cons, List.length_append, List.length_nil, Config.chainLimit] at hroom ⊢
    omega

end

/-- Settles O31: the segment joins the assembly (`joinedSegment_desc`), which goes on, or is delivered whole (`deliver_spec`). -/
theorem lastSegmentDeliversAssembly : Obligations.LastSegmentDeliversAssembly := by
  intro bytes s f df p bs d rest hhear hquiet hwf hdecode hsource hother hdest hpresent hd hstate hfrom hp hchain hroom htail
    hnew hlater hpool hfresh hfree
  let v := s.dataHeard bytes f
  obtain ⟨y, hstored, hstores⟩ := decideNext_stores (s := v) (n := f.channel) (f := f) (df := df) (p := p) hpool hwf
    (payload_length_le hdecode)
  have hvchain : isChain v (p.head :: bs) = true := isChain_of_descs (s := s) rfl hchain
  have hdesc := fun e => joinedSegment_desc hstored htail hfresh hfree e
  have hmember := fun e he => joinedSegment_member hstored htail hfresh hfree (e := e) he
  have hgrown := joinedSegment_chain hstored htail hfresh hfree hvchain hroom
  obtain ⟨hyframe, hytally, hyqueue, -, hymem⟩ := hstored
  have hzframe : y.linkedAfter p.tail d = { y with descs := (y.linkedAfter p.tail d).descs } := rfl
  have hzrxc : ∀ m, (y.linkedAfter p.tail d).rxc m = s.rxc m := fun m => by rw [hzframe, hyframe]; rfl
  refine ⟨fun hlast hlen => ?delivered, fun hlast hlen hcount => ?goesOn⟩
  case goesOn =>
    have hdecides := decision_next (s := v) hd hstate hfrom hp hnew hlater (.inr ⟨hlast, hlen, hcount⟩)
    rw [hstores, hlast] at hdecides
    dsimp only at hdecides
    rw [if_neg Bool.false_ne_true] at hdecides
    obtain ⟨t, hexec, htframe, htroster, htrxc, httally, htqueue, htdesc, htmem⟩ := exec_dataStored hhear hquiet hdecode
      hsource hother hdest hpresent (abandon := s.events.abandon) hdecides (by rw [hzframe, hyframe]; rfl)
    refine ⟨t, hexec, htframe, htroster, fun m => ?_, fun m a => ?_, fun q => ?_, fun e => ?_, fun a => ?_⟩
    · rw [htrxc, setRx_rxc, hzrxc]
      by_cases hm : m = f.channel
      · rw [if_pos hm, if_pos hm, hm, Assembly.grown, hlen]
        rfl
      · rw [if_neg hm, if_neg hm]
    · exact (httally m a).trans (hytally m a)
    · exact (htqueue q).trans (hyqueue q)
    · refine (htdesc e).trans ((hdesc e).trans ?_)
      rw [hlen]
      rfl
    · refine (htmem a).trans ((hymem a).trans ?_)
      rw [hlen]
      rfl
  case delivered =>
    have hdecides := decision_next (s := v) hd hstate hfrom hp hnew hlater (.inl ⟨hlast, by omega⟩)
    obtain ⟨hgframe, hgrxc, hgqueue, hgdesc⟩ := deliver_spec
      (u := (y.linkedAfter p.tail d).setRx f.channel ((v.rxc f.channel).joined (p.grown d f)))
      (n := f.channel) (df := df) (p := p.grown d f) (ms := bs ++ [d])
      (by rw [setRx_rxc_self]; exact hd) (by rw [setRx_rxc_self]; rfl) (isChain_of_descs (s := y.linkedAfter p.tail d) rfl hgrown) f.source
    rw [hstores, hlast] at hdecides
    dsimp only at hdecides
    rw [if_pos rfl] at hdecides
    rw [setRx_rxc_self] at hgrxc hgdesc
    generalize ((y.linkedAfter p.tail d).setRx f.channel ((v.rxc f.channel).joined (p.grown d f))).deliver f.channel f.source
      = g at *
    obtain ⟨t, hexec, htframe, htroster, htrxc, httally, htqueue, htdesc, htmem⟩ := exec_dataStored hhear hquiet hdecode
      hsource hother hdest hpresent (abandon := s.events.abandon) hdecides (by rw [hgframe, hzframe, hyframe]; rfl)
    refine ⟨t, hexec, htframe, htroster, fun m => ?_, fun m a => ?_, fun q => ?_, fun e => ?_, fun a => ?_⟩
    · rw [htrxc, hgrxc, setRx_rxc, hzrxc]
      by_cases hm : m = f.channel
      · rw [if_pos hm, if_pos hm, hm]
        rfl
      · rw [if_neg hm, if_neg hm, if_neg hm]
    · exact (httally m a).trans (Eq.trans (by rw [hgframe]; rfl) (hytally m a))
    · refine (htqueue q).trans ((hgqueue q).trans (congrArg (· ++ _) ((hyqueue q).trans ?_)))
      change (if q = df.bodyPool then rest ++ (s.desc d).next.toList else s.queue q) = _
      cases (s.desc d).next with
      | none => rw [Option.toList_none, List.append_nil]
      | some e => rfl
    · rw [htdesc, hgdesc, State.desc_setRx_other, State.desc_setRx_other]
      change (if e = p.head then _ else _) = _
      by_cases hed : e = d
      · have hhead : ¬ e = p.head := fun h => hfresh (by rw [← hed, h]; exact List.mem_cons_self)
        rw [if_pos hed, if_neg hhead, if_pos (by rw [hed]; simp), hdesc, if_pos hed]
        rfl
      · rw [if_neg hed]
        by_cases hhead : e = p.head
        · subst hhead
          have hold : (y.linkedAfter p.tail d).desc (p.grown d f).head = _ := hmember p.head List.mem_cons_self
          rw [if_pos rfl, if_pos rfl, hold]
          rfl
        · rw [if_neg hhead, if_neg hhead]
          by_cases hbody : e ∈ bs
          · rw [if_pos (List.mem_append_left _ hbody), if_pos hbody, hmember e (List.mem_cons_of_mem _ hbody)]
            rfl
          · have hmem : e ∉ bs ++ [d] := by simp [hbody, hed]
            have htail' : ¬ e = p.tail := fun h => by
              obtain hin | hin := List.mem_cons.mp (h ▸ List.mem_of_getLast? htail : e ∈ p.head :: bs)
              · exact hhead hin
              · exact hbody hin
            rw [if_neg hmem, if_neg hbody, hdesc, if_neg hed, if_neg htail']
            rfl
    · exact (htmem a).trans (Eq.trans (by rw [hgframe]; rfl) (hymem a))

end Sys2Proof.Machine
end

section
/-! PROOFS. The end of LEAVING with the own turn: the outcome of the outstanding segment, then the entry to OFFLINE (R57, R64,
R66, R77, R78, R94, R98, R99, R105, R131). -/

namespace Sys2Proof.Machine

open Sys2Proof.Safety

variable {s t u v w x y z : State} {bytes : List Byte} {n : ChanId} {df : TxDef} {h : DescId} {ms : List DescId}
  {msgs parts : ChanId → List DescId}

/-! ## What an exit from ONLINE leaves of a context (R99, R105) -/

theorem afterExit_afterHeard (s : State) (a : Station) (c : TxChan) : afterExit (afterHeard s a c) = afterExit c := by
  unfold afterHeard
  split
  · next hcase =>
    obtain ⟨-, -, hany⟩ := hcase
    obtain ⟨df, hd⟩ : ∃ df, c.defn = some df := by
      cases hd : c.defn with
      | none => simp [hd] at hany
      | some df => exact ⟨df, rfl⟩
    cases hm : c.msg with
    | none => simp [afterExit, hd, hm]
    | some h => simp [afterExit, afterFailure, hd, hm]
  · rfl

/-- The context of a channel whose message has ended before or at the exit, with the tally given. -/
def TxChan.exited (df : TxDef) (tally : Tally) : TxChan :=
  { defn := some df, state := .idle, msg := none, cur := none, tally := tally, attempts := 0, laters := 0, absence := 0,
    doubt := false, outstanding := false }

theorem afterExit_ended {c : TxChan} {st : DescStatus} (hd : c.defn = some df) (hactive : c.state = .active)
    (hst : st ≠ .closed) (tally : Tally) : afterExit (c.endedBy st tally) = TxChan.exited df tally := by
  rw [endedBy_eq (by rw [hactive]; decide), hd, if_neg hst]
  rfl

theorem afterExit_leftInDoubt {c : TxChan} (hd : c.defn = some df) (hm : c.msg = some h) (hactive : c.state = .active) :
    afterExit c.leftInDoubt = TxChan.exited df (c.tally + 1) := by
  simp [afterExit, TxChan.leftInDoubt, afterFailure, hd, hm, hactive, TxChan.exited]

/-! ## Entries to OFFLINE with nothing, or one message, in doubt (R57, R68, R78, R105, R131) -/

theorem noneBusy_iff : noneBusy s = true ↔ ∀ m, (s.rxc m).busy = false := by
  simp only [noneBusy, allChans_all_iff, Bool.not_eq_true']

theorem cutOff_quiet (hline : s.line = .quiet) (hrequest : s.request = none) :
    s.cutOff = { s with station := .offline, turn := turnOff s.turn } := by
  unfold State.cutOff State.stopLine
  rw [if_pos hline, ← hline, ← hrequest]

/-- The one chain that ends is the message of TXn (R105). -/
def onlyMessage (n : ChanId) (l : List DescId) (m : ChanId) : List DescId := if m = n then l else []

theorem ending_onlyMessage (hidle : noneBusy s = true) (hothers : ∀ m, m ≠ n → (s.txc m).doubt = false)
    (hd : (s.txc n).defn = some df) (hm : (s.txc n).msg = some h) (hdoubt : (s.txc n).doubt = true)
    (hchain : isChain s (h :: ms) = true) :
    ending s TxChan.doubt RxChan.busy (onlyMessage n (h :: ms)) (fun _ => []) = true := by
  have hsingle : allChans.flatMap (onlyMessage n (h :: ms)) = h :: ms :=
    (flatMap_single allChans_nodup (mem_allChans n) fun m hmn => if_neg hmn).trans (if_pos rfl)
  have hnone : allChans.flatMap (fun _ => ([] : List DescId)) = [] := List.flatMap_eq_nil_iff.mpr fun _ _ => rfl
  obtain ⟨-, hnodup, -⟩ := isChain_iff.mp hchain
  rw [ending, hsingle, hnone, List.append_nil, decide_eq_true hnodup, Bool.and_true, allChans_all_iff]
  intro m
  have hpart : partialAt s RxChan.busy m [] = true := by
    unfold partialAt
    rw [noneBusy_iff.mp hidle m]
    cases (s.rxc m).defn with
    | none => rfl
    | some df' =>
      cases (s.rxc m).part with
      | none => rfl
      | some p => rfl
  rw [hpart, Bool.and_true]
  unfold messageAt onlyMessage
  by_cases hmn : m = n
  · subst hmn
    rw [hd, hm, hdoubt, if_pos rfl]
    simp [hchain]
  · rw [hothers m hmn, if_neg hmn]
    cases (s.txc m).defn with
    | none => rfl
    | some df' =>
      cases (s.txc m).msg with
      | none => rfl
      | some h' => rfl

/-- Nothing in doubt and no channel busy: the messages in hand are rewound. -/
theorem interrupt_rxOffline_calm (hidle : noneBusy x = true) (hdoubt : ∀ m, (x.txc m).doubt = false) :
    x.interrupt.rxOffline = { x with tx := x.interrupt.rxOffline.tx, rx := x.interrupt.rxOffline.rx }
    ∧ (∀ m, x.interrupt.rxOffline.txc m = afterExit (x.txc m))
    ∧ ∀ m, x.interrupt.rxOffline.rxc m = afterOffline (x.rxc m) := by
  have hcalm : nothingInDoubt x = true := by
    simp only [nothingInDoubt, allChans_all_iff, Bool.not_eq_true']
    exact hdoubt
  obtain ⟨hframe, htxc⟩ := interrupt_nothingInDoubt x hcalm
  generalize x.interrupt = i at *
  have hrx : ∀ m, i.rxc m = x.rxc m := fun m => by rw [hframe]; rfl
  obtain ⟨hoff, hrxc⟩ := rxOffline_noneBusy i (noneBusy_iff.mpr fun m => by rw [hrx]; exact noneBusy_iff.mp hidle m)
  generalize i.rxOffline = o at *
  refine ⟨?_, fun m => ?_, fun m => ?_⟩
  · rw [hoff, hframe]
  · rw [hoff]
    exact htxc m
  · rw [hrxc, hrx, afterOffline, noneBusy_iff.mp hidle m]
    rfl

theorem goOffline_calm (hst : x.station = .leaving) (hidle : noneBusy x = true) (hdoubt : ∀ m, (x.txc m).doubt = false) :
    x.goOffline = { x.cutOff with tx := x.goOffline.tx, rx := x.goOffline.rx }
    ∧ (∀ m, x.goOffline.txc m = afterExit (x.txc m)) ∧ ∀ m, x.goOffline.rxc m = afterOffline (x.rxc m) := by
  rw [goOffline_inTurns (.inr hst)]
  exact interrupt_rxOffline_calm (x := x.cutOff) hidle hdoubt

/-- `t` differs from `s` in what the end of TXn's message and the exit and entry to OFFLINE do to the engines. -/
def EndedOffline (n : ChanId) (df : TxDef) (st : DescStatus) (tally : Tally) (h : DescId) (ms : List DescId) (s t : State) : Prop :=
  (∀ m, t.rxc m = afterOffline (s.rxc m))
  ∧ (∀ m, t.txc m = if m = n then TxChan.exited df tally else afterExit (s.txc m))
  ∧ (∀ q, t.queue q = s.queue q ++ (if q = (s.desc h).returnQueue then [h] else []))
  ∧ ∀ e, t.desc e = messageDesc s df.station n st (h :: ms) e

section
variable {tally : Tally} (hst : x.station = .leaving) (hidle : noneBusy s = true) (hrx : x.rx = s.rx)
  (hothers : ∀ m, m ≠ n → afterExit (x.txc m) = afterExit (s.txc m) ∧ (x.txc m).doubt = false)
  (hexit : afterExit (x.txc n) = TxChan.exited df tally)
include hst hidle hrx hothers hexit

/-- The message has ended before the entry to OFFLINE. -/
theorem goOffline_ended {st : DescStatus} (hdoubt : (x.txc n).doubt = false)
    (hqueue : ∀ q, x.queue q = s.queue q ++ (if q = (s.desc h).returnQueue then [h] else []))
    (hdesc : ∀ e, x.desc e = messageDesc s df.station n st (h :: ms) e) :
    x.goOffline = { x.cutOff with
      tx := x.goOffline.tx, rx := x.goOffline.rx, descs := x.goOffline.descs, queues := x.goOffline.queues }
    ∧ EndedOffline n df st tally h ms s x.goOffline := by
  have hrxc : ∀ m, x.rxc m = s.rxc m := fun m => congrArg (look · m) hrx
  obtain ⟨hframe, htxc, hrxcOff⟩ := goOffline_calm hst
    (noneBusy_iff.mpr fun m => by rw [hrxc]; exact noneBusy_iff.mp hidle m) fun m => by
      by_cases hmn : m = n
      · rw [hmn]
        exact hdoubt
      · exact (hothers m hmn).2
  generalize x.goOffline = o at *
  refine ⟨?_, fun m => ?_, fun m => ?_, fun q => ?_, fun e => ?_⟩
  · rw [hframe]
  · rw [hrxcOff, hrxc]
  · rw [htxc]
    by_cases hmn : m = n
    · rw [if_pos hmn, hmn, hexit]
    · obtain ⟨hafter, -⟩ := hothers m hmn
      rw [if_neg hmn, hafter]
  · rw [hframe]
    exact hqueue q
  · rw [hframe]
    exact hdesc e

/-- The message in doubt fails at the exit. -/
theorem goOffline_inDoubt (hdoubt : (x.txc n).doubt = true) (hd : (x.txc n).defn = some df) (hm : (x.txc n).msg = some h)
    (hchain : isChain s (h :: ms) = true) (hqueues : x.queues = s.queues) (hdescs : x.descs = s.descs) :
    x.goOffline = { x.cutOff with
      tx := x.goOffline.tx, rx := x.goOffline.rx, descs := x.goOffline.descs, queues := x.goOffline.queues }
    ∧ EndedOffline n df .noAnswer tally h ms s x.goOffline := by
  have hrxc : ∀ m, x.rxc m = s.rxc m := fun m => congrArg (look · m) hrx
  have hxidle : noneBusy x = true := noneBusy_iff.mpr fun m => by rw [hrxc]; exact noneBusy_iff.mp hidle m
  have hxdesc : ∀ e, x.desc e = s.desc e := fun e => congrArg (look · e) hdescs
  have hxqueue : ∀ q, x.queue q = s.queue q := fun q => congrArg (look · q) hqueues
  obtain ⟨hframe, htxc, hrxcOff, hqueue, hdesc⟩ := goOffline_ending (.inr hst)
    (ending_onlyMessage hxidle (fun m hmn => (hothers m hmn).2) hd hm hdoubt (isChain_of_descs (s := s) hdescs hchain))
  have hown : onlyMessage n (h :: ms) n = h :: ms := if_pos rfl
  have hnone : ∀ m, m ≠ n → onlyMessage n (h :: ms) m = [] := fun m hmn => if_neg hmn
  generalize x.goOffline = o at *
  refine ⟨?_, fun m => ?_, fun m => ?_, fun q => ?_, fun e => ?_⟩
  · rw [hxidle, Bool.not_true, Bool.or_false] at hframe
    exact hframe
  · rw [hrxcOff, hrxc]
  · rw [htxc]
    by_cases hmn : m = n
    · rw [if_pos hmn, hmn, hexit]
    · obtain ⟨hafter, -⟩ := hothers m hmn
      rw [if_neg hmn, hafter]
  · rw [hqueue, hxqueue, endedTo_message hown hnone x q, hxdesc]
  · rw [hdesc, endedDesc_message hown hnone hd e]
    simp only [messageDesc, hxdesc]

end

/-! ## The outcome of the outstanding segment (R93, R94, R98) -/

section
variable (hd : (y.txc n).defn = some df) (hm : (y.txc n).msg = some h) (hactive : (y.txc n).state = .active)
  (hchain : isChain y (h :: ms) = true) (hout : onlyOutstanding y n = true)
include hd hm hactive hchain hout

/-- The segment unanswered: its message is left in doubt, or has failed at the eighth attempt. -/
theorem unanswered_left {answer : Option Frame} (hanswer : ∀ r, answer ≠ some (.reply r)) :
    y.ownTurnEnds answer = { y with
      tx := (y.ownTurnEnds answer).tx, descs := (y.ownTurnEnds answer).descs, queues := (y.ownTurnEnds answer).queues
      counters := { y.counters with unanswered := min (y.counters.unanswered + 1) 65535 } }
    ∧ (∀ m, m ≠ n → (y.ownTurnEnds answer).txc m = y.txc m)
    ∧ afterExit ((y.ownTurnEnds answer).txc n) = TxChan.exited df ((y.txc n).tally + 1)
    ∧ ((y.ownTurnEnds answer).txc n).outstanding = false
    ∧ (((y.ownTurnEnds answer).txc n).doubt = true ∧ ((y.ownTurnEnds answer).txc n).defn = some df
        ∧ ((y.ownTurnEnds answer).txc n).msg = some h ∧ (y.ownTurnEnds answer).queues = y.queues
        ∧ (y.ownTurnEnds answer).descs = y.descs
      ∨ ((y.ownTurnEnds answer).txc n).doubt = false
        ∧ (∀ q, (y.ownTurnEnds answer).queue q = y.queue q ++ (if q = (y.desc h).returnQueue then [h] else []))
        ∧ ∀ e, (y.ownTurnEnds answer).desc e = messageDesc y df.station n .noAnswer (h :: ms) e) := by
  rw [← countUp_eq y.counters.unanswered]
  by_cases hattempts : (y.txc n).attempts < 8
  · rw [unanswered_active hanswer hout hactive hattempts]
    refine ⟨rfl, fun m hmn => ?_, ?_, ?_, .inl ⟨?_, ?_, ?_, rfl, rfl⟩⟩
    · exact setTx_txc_other _ _ hmn
    all_goals rw [setTx_txc_self]
    · exact afterExit_leftInDoubt hd hm hactive
    · rfl
    · rfl
    · exact hd
    · exact hm
  · have hends : y.ownTurnEnds answer = ((y.count .unanswered).handBack h .noAnswer df.station n).setTx n
        ((y.txc n).endedBy .noAnswer ((y.txc n).tally + 1)) := by
      rw [ownTurnEnds_only hout, replyFor_none hanswer, applyOutcome_gaveUp hd hm (Nat.not_lt.mp hattempts)]
      exact finishTearing_not (by rw [setTx_txc_self, endedBy_state (by rw [hactive]; decide)]; decide)
    obtain ⟨hframe, htxc, hqueue, hdesc⟩ := handBack_setTx_spec (s := y.count .unanswered)
      (isChain_of_descs (s := y) rfl hchain) .noAnswer df.station n n ((y.txc n).endedBy .noAnswer ((y.txc n).tally + 1))
    rw [← hends] at hframe htxc hqueue hdesc
    generalize y.ownTurnEnds answer = z at *
    have hzn : z.txc n = (y.txc n).endedBy .noAnswer ((y.txc n).tally + 1) := (htxc n).trans (if_pos rfl)
    refine ⟨?_, fun m hmn => (htxc m).trans (if_neg hmn), ?_, ?_, .inr ⟨?_, hqueue, hdesc⟩⟩
    · rw [hframe]
      rfl
    · rw [hzn, afterExit_ended hd hactive (by decide)]
    · rw [hzn]
      rfl
    · rw [hzn]
      rfl

end

/-! ## The turn that the frame opens while LEAVING (R64, R66, R77) -/

theorem leaveAfter_leaving {owner : Station} (hst : s.station = .leaving) (howner : owner = s.ownAddr) :
    s.leaveAfter owner = s.goOffline := if_pos ⟨howner, hst⟩

theorem goOffline_station : s.goOffline.station = .offline :=
  (goOffline_updates s).station_eq (by simp)

theorem leaveAfter_offline (hst : s.station = .offline) (owner : Station) : s.leaveAfter owner = s :=
  if_neg fun h => by rw [hst] at h; cases h.2

theorem frameToEngines_offline (hst : s.station = .offline) (v : Option Frame) : s.frameToEngines v = s := by
  unfold State.frameToEngines
  split
  · exact if_neg fun h => by rw [hst] at h; exact absurd h.2.1 (by decide)
  · rfl

theorem openTurn_leaving {g : Frame} {b : Station} (hg : OpensTurn g b) (hst : u.station = .leaving)
    (hidle : noneBusy u = true) (hout : nothingOutstanding u = true) {owner : Station}
    (howner : owner = u.ownAddr) :
    (u.openTurn g).leaveAfter owner = State.goOffline { u with turn := u.turn.opened g } := by
  obtain rfl | ⟨f, rfl, -⟩ := hg
  · have hfrom : nothingFrom u u.turn.counter = true := nothingFrom_iff.mpr fun m => by
      rw [RxChan.busyFrom, noneBusy_iff.mp hidle m]
      rfl
    have hnot : State.atOwnTurn { u with turn := turnAfter u.turn } = false := by simp [State.atOwnTurn, hst]
    have hopen : u.openTurn (.pass b) = State.leaveAfter { u with turn := turnAfter u.turn } u.turn.counter := by
      change u.turnEnd .byPass = _
      rw [State.turnEnd, endTurn_calm (by decide) fun _ => hout, turnPasses_nothingFrom hfrom, startOwnTurn_not hnot]
    rw [hopen]
    by_cases hown : u.turn.counter = u.ownAddr
    · rw [leaveAfter_leaving (s := { u with turn := turnAfter u.turn }) hst hown, leaveAfter_offline goOffline_station]
      rfl
    · have hstays : State.leaveAfter { u with turn := turnAfter u.turn } u.turn.counter = { u with turn := turnAfter u.turn } :=
        if_neg fun h => hown h.1
      rw [hstays, leaveAfter_leaving (s := { u with turn := turnAfter u.turn }) hst howner]
      rfl
  · exact leaveAfter_leaving (s := u.withTimer .responseWindow) hst howner

theorem afterHeard_eq (s : State) (a : Station) (c : TxChan) :
    afterHeard s a c = { c with absence := (afterHeard s a c).absence } := by
  unfold afterHeard
  split
  · rfl
  · rfl

theorem turnOff_opened {g : Frame} {b : Station} (hg : OpensTurn g b) (c : TurnControl) :
    turnOff ((c.slipped b).opened g) = { turnOff c with counter := if g = .pass b then b + 1 else b } := by
  obtain rfl | ⟨f, rfl, -⟩ := hg
  · rw [if_pos rfl]
    rfl
  · rw [if_neg (by nofun)]
    rfl

/-! ## LEAVING ends -/

/-- The state in which the own turn's outcome is taken at a frame end (R60, R64, R65). -/
def State.ownTurnOver (s : State) (bytes : List Byte) : State := { s.heardEnd bytes with turn := turnAfter s.turn }

section
variable (hst : s.station = .leaving) (hrequest : s.request = none) (hown : s.turn.counter = s.ownAddr)
  (hout : onlyOutstanding s n = true) (hactive : (s.txc n).state = .active) (hfrom : nothingFrom s s.ownAddr = true)
include hst hrequest hown hout hactive hfrom

/-- The window closes unanswered: the message in doubt fails at the entry to OFFLINE with the others rewound. -/
theorem leavingEnds_byWindow (hd : (s.txc n).defn = some df) (hm : (s.txc n).msg = some h) (hline : s.line = .quiet)
    (htimer : s.turn.timer = .responseWindow) (hattempts : (s.txc n).attempts < 8)
    (hends : ending (s.setTx n { s.txc n with doubt := true }) TxChan.doubt RxChan.busy msgs parts = true) :
    ∃ t, exec .responseWindowExpiry s = .next t
      ∧ t = { s with
          station := .offline, turn := { turnOff s.turn with counter := s.ownAddr + 1 }, tx := t.tx, rx := t.rx,
          descs := t.descs, queues := t.queues,
          counters := { s.counters with unanswered := min (s.counters.unanswered + 1) 65535 },
          events := { s.events with abandon := s.events.abandon || !noneBusy s } }
      ∧ (∀ m, t.txc m = afterExit ((s.setTx n { s.txc n with doubt := true }).txc m)) ∧ (∀ m, t.rxc m = afterOffline (s.rxc m))
      ∧ (∀ q, t.queue q = s.queue q ++ endedTo s msgs parts q) ∧ ∀ e, t.desc e = endedDesc s msgs parts e := by
  let y : State := { s with turn := turnAfter s.turn }
  let z : State := (y.count .unanswered).setTx n (s.txc n).leftInDoubt
  have hnot : z.atOwnTurn = false := by simp [State.atOwnTurn, z, y, hst]
  have hturn : s.turnEnd .byWindow = z.goOffline := by
    have hanswer : y.ownTurnEnds none = z := unanswered_active (s := y) (answer := none) nofun hout hactive hattempts
    rw [State.turnEnd, endTurn_own hown, turnPasses_nothingFrom (hown ▸ hfrom)]
    change (State.ownTurnEnds y none).startOwnTurn.leaveAfter _ = _
    rw [hanswer, startOwnTurn_not hnot]
    exact leaveAfter_leaving (s := z) hst hown
  have hsame : ∀ m, (z.txc m).defn = ((s.setTx n { s.txc n with doubt := true }).txc m).defn
      ∧ (z.txc m).msg = ((s.setTx n { s.txc n with doubt := true }).txc m).msg
      ∧ (z.txc m).doubt = ((s.setTx n { s.txc n with doubt := true }).txc m).doubt := fun m => by
    rw [setTx_txc, setTx_txc]
    by_cases hmn : m = n
    · rw [if_pos hmn, if_pos hmn]
      exact ⟨rfl, rfl, rfl⟩
    · rw [if_neg hmn, if_neg hmn]
      exact ⟨rfl, rfl, rfl⟩
  have hdefns : ∀ m, (z.txc m).defn = (s.txc m).defn := fun m => by
    rw [setTx_txc]
    by_cases hmn : m = n
    · rw [if_pos hmn, hmn]
      rfl
    · rw [if_neg hmn]
      rfl
  obtain ⟨hframe, htxc, hrxc, hqueue, hdesc⟩ := goOffline_ending (s := z) (.inr hst)
    (ending_sameMessages hends hsame rfl rfl)
  rw [cutOff_quiet (s := z) hline hrequest] at hframe
  refine ⟨_, (exec_responseWindowExpiry (.inr hst) hline hrequest htimer).trans (congrArg Host.Outcome.next hturn), ?_,
    fun m => ?_, hrxc, hqueue, fun e => ?_⟩
  · generalize z.goOffline = o at *
    have hoff : turnOff z.turn = { turnOff s.turn with counter := s.ownAddr + 1 } := by
      rw [← hown]
      rfl
    rw [hframe, hoff, ← countUp_eq s.counters.unanswered]
    rfl
  · rw [htxc, setTx_txc, setTx_txc]
    by_cases hmn : m = n
    · rw [if_pos hmn, if_pos hmn, afterExit_leftInDoubt hd hm hactive]
      simp [afterExit, afterFailure, hd, hm, hactive, TxChan.exited]
    · rw [if_neg hmn, if_neg hmn]
      rfl
  · rw [hdesc]
    exact endedDesc_sameDefns hdefns rfl rfl e

variable (hline : s.line = .receiving { began := .window, counted := true, remainder := false })
  (hidle : noneBusy s = true) (hothers : ∀ m, m ≠ n → (s.txc m).doubt = false) (hd : (s.txc n).defn = some df)
  (hm : (s.txc n).msg = some h) (hchain : isChain s (h :: ms) = true)
include hline hidle hothers hd hm hchain

/-- The REPLY on the last segment delivers the message before the entry to OFFLINE. -/
theorem leavingEnds_byReply {d : DescId} {code : ReplyCode} (hcur : (s.txc n).cur = some d) (hnext : (s.desc d).next = none)
    (hcode : code = .taken ∨ code = .seen)
    (hdecode : decodeFrame bytes = some (.reply { source := df.station, destination := s.ownAddr, channel := df.channel,
                                                  tallyEcho := (s.txc n).tally, code := code })) :
    ∃ t, exec (.frameEnd bytes) s = .next t
      ∧ t = { s with
          station := .offline, line := .quiet, turn := { turnOff s.turn with counter := s.ownAddr + 1 }, roster := t.roster,
          tx := t.tx, rx := t.rx, descs := t.descs, queues := t.queues,
          sinceLow := trailingHigh (bytes.getLastD 0) * Config.bitTime s.cfg.rate }
      ∧ (∀ c, t.rosterOf c = rosterAfter s df.station c)
      ∧ EndedOffline n df .delivered ((s.txc n).tally + 1) h ms s t := by
  have hheard := heardFrom_spec (s.ownTurnOver bytes) df.station
  have hexec : exec (.frameEnd bytes) s = .next ((State.ownTurnEnds ((s.ownTurnOver bytes).heardFrom df.station)
      (some (.reply { source := df.station, destination := s.ownAddr, channel := df.channel,
                      tallyEcho := (s.txc n).tally, code := code }))).leaveAfter s.turn.counter) := by
    rw [exec_frameEnd hline hrequest hdecode fun _ _ => rfl]
    refine congrArg Host.Outcome.next ?_
    exact (frameToTurns_inTurns (s := s.heardEnd bytes) (.inr hst) _ _).trans ((if_pos rfl).trans
      (frameInWindow_own (s := s.heardEnd bytes) (v := some (.reply _)) hown hfrom rfl))
  generalize (s.ownTurnOver bytes).heardFrom df.station = v at *
  obtain ⟨hframe, hroster, htxc⟩ := id hheard
  have hvn : v.txc n = { s.txc n with absence := (v.txc n).absence } := by
    rw [htxc]
    exact afterHeard_eq _ _ _
  have hvdescs : v.descs = s.descs := by rw [hframe]; rfl
  have hvout : onlyOutstanding v n = true := onlyOutstanding_iff.mpr fun m => by
    rw [htxc, afterHeard_outstanding]
    exact onlyOutstanding_iff.mp hout m
  have hvown : s.ownAddr = v.ownAddr := by rw [hframe]; rfl
  have hdelivers := applyOutcome_taken_last (s := v) (n := n) (df := df) (h := h) (by rw [hvn]; exact hd) (by rw [hvn]; exact hm)
    hcode (by rw [hvn]; exact hcur) (by rw [State.desc, hvdescs]; exact hnext)
  obtain ⟨hzframe, hztxc, hzqueue, hzdesc⟩ := handBack_setTx_spec (s := v) (isChain_of_descs hvdescs hchain) .delivered
    df.station n n ((v.txc n).endedBy .delivered ((v.txc n).tally + 1))
  rw [ownTurnEnds_only hvout, replyFor_matching (by rw [hvn]; exact hd) hvown (by rw [hvn]), hdelivers] at hexec
  generalize (v.handBack h .delivered df.station n).setTx n ((v.txc n).endedBy .delivered ((v.txc n).tally + 1)) = z at *
  have hzn : z.txc n = (v.txc n).endedBy .delivered ((v.txc n).tally + 1) := (hztxc n).trans (if_pos rfl)
  have hvactive : (v.txc n).state = .active := by rw [hvn]; exact hactive
  have hexit : afterExit (z.txc n) = TxChan.exited df ((s.txc n).tally + 1) := by
    rw [hzn, afterExit_ended (df := df) (by rw [hvn]; exact hd) hvactive (by decide), hvn]
  have hzst : z.station = .leaving := by rw [hzframe, hframe]; exact hst
  rw [finishTearing_not (by rw [hzn, endedBy_state (by rw [hvactive]; decide)]; decide),
    leaveAfter_leaving hzst (by rw [hzframe, hframe]; exact hown)] at hexec
  have hzothers : ∀ m, m ≠ n → afterExit (z.txc m) = afterExit (s.txc m) ∧ (z.txc m).doubt = false := fun m hmn => by
    rw [hztxc, if_neg hmn, htxc]
    exact ⟨afterExit_afterHeard _ _ _, (congrArg TxChan.doubt (afterHeard_eq _ _ _)).trans (hothers m hmn)⟩
  obtain ⟨hoff, hended⟩ := goOffline_ended (s := s) (h := h) (ms := ms) (st := .delivered) hzst hidle
    (by rw [hzframe, hframe]; rfl) hzothers hexit (by rw [hzn]; rfl)
    (fun q => by rw [hzqueue, State.desc, hvdescs, hframe]; rfl)
    fun e => by rw [hzdesc]; simp only [messageDesc, State.desc, hvdescs]
  rw [cutOff_quiet (by rw [hzframe, hframe]; rfl) (by rw [hzframe, hframe]; exact hrequest)] at hoff
  have hturn : turnOff z.turn = { turnOff s.turn with counter := s.ownAddr + 1 } := by
    rw [hzframe, hframe, ← hown]
    rfl
  generalize z.goOffline = o at *
  refine ⟨_, hexec, ?_, fun c => ?_, hended⟩
  · rw [hoff, hturn, hzframe, hframe]
    rfl
  · rw [hoff, hzframe]
    exact hroster c

/-- A PASS or DATA leaves the segment unanswered, slips and opens its turn; the message fails before or at the entry to
OFFLINE. -/
theorem leavingEnds_byTurnFrame {g : Frame} {b : Station} (hdecode : decodeFrame bytes = some g) (hg : OpensTurn g b) :
    ∃ t, exec (.frameEnd bytes) s = .next t
      ∧ t = { s with
          station := .offline, line := .quiet
          turn := { turnOff s.turn with counter := if g = .pass b then b + 1 else b }, roster := t.roster
          tx := t.tx, rx := t.rx, descs := t.descs, queues := t.queues
          sinceLow := trailingHigh (bytes.getLastD 0) * Config.bitTime s.cfg.rate
          counters := { s.counters with
            unanswered := min (s.counters.unanswered + 1) 65535, slips := min (s.counters.slips + 1) 65535 }
          events := { s.events with slip := true } }
      ∧ (∀ c, t.rosterOf c = rosterAfter s b c) ∧ EndedOffline n df .noAnswer ((s.txc n).tally + 1) h ms s t := by
  have hexec := exec_frameEnd_window (.inr hst) hline hrequest hdecode hg
  obtain ⟨hzframe, hztxc, hzexit, hzout, hzcase⟩ := unanswered_left (y := s.ownTurnOver bytes) hd hm hactive
    (isChain_of_descs (s := s) rfl hchain) hout (answer := some g) fun r hr => hg.not_reply r (Option.some.inj hr)
  have hends : (s.heardEnd bytes).endTurn (.byAnswer (some g)) = (s.ownTurnOver bytes).ownTurnEnds (some g) := by
    rw [endTurn_own (s := s.heardEnd bytes) hown, turnPasses_nothingFrom (s := s.heardEnd bytes) (hown ▸ hfrom)]
    rfl
  rw [hends] at hexec
  generalize (s.ownTurnOver bytes).ownTurnEnds (some g) = z at *
  have hzst : z.station = .leaving := by rw [hzframe]; exact hst
  rw [markOwnTurn_not (by simp [State.atOwnTurn, hzst])] at hexec
  have hheard := heardFrom_spec z b
  have hzsilent : nothingOutstanding z = true := by
    rw [nothingOutstanding, allChans_all_iff]
    intro m
    by_cases hmn : m = n
    · rw [hmn, hzout]
      rfl
    · rw [hztxc m hmn]
      have hnone : (s.txc m).outstanding = false := (onlyOutstanding_iff.mp hout m).trans (decide_eq_false hmn)
      exact (congrArg not hnone).trans rfl
  have hvsilent := nothingOutstanding_heard hheard hzsilent
  generalize z.heardFrom b = v at *
  obtain ⟨hframe, hroster, htxc⟩ := id hheard
  have hvst : v.station = .leaving := by rw [hframe]; exact hzst
  have hvrx : v.rx = s.rx := by rw [hframe, hzframe]; rfl
  have hvidle : noneBusy v = true := noneBusy_iff.mpr fun m => by rw [State.rxc, hvrx]; exact noneBusy_iff.mp hidle m
  rw [openTurn_leaving (u := v.slipTo b) hg hvst hvidle hvsilent (by rw [slipTo_eq, hframe, hzframe]; exact hown),
    frameToEngines_offline goOffline_station] at hexec
  have hxframe : { v.slipTo b with turn := (v.slipTo b).turn.opened g } = { v with
      turn := (TurnControl.slipped (turnAfter s.turn) b).opened g
      counters := { s.counters with
        unanswered := min (s.counters.unanswered + 1) 65535, slips := min (s.counters.slips + 1) 65535 }
      events := { s.events with slip := true } } := by
    rw [slipTo_eq, hframe, hzframe]
    rfl
  rw [hxframe] at hexec
  generalize hx : ({ v with
      turn := (TurnControl.slipped (turnAfter s.turn) b).opened g
      counters := { s.counters with
        unanswered := min (s.counters.unanswered + 1) 65535, slips := min (s.counters.slips + 1) 65535 }
      events := { s.events with slip := true } } : State) = x at hexec
  have hxtxc : ∀ m, x.txc m = afterHeard z b (z.txc m) := fun m => by
    rw [← hx]
    exact htxc m
  have hxexit : afterExit (x.txc n) = TxChan.exited df ((s.txc n).tally + 1) := by
    rw [hxtxc, afterExit_afterHeard]
    exact hzexit
  have hxothers : ∀ m, m ≠ n → afterExit (x.txc m) = afterExit (s.txc m) ∧ (x.txc m).doubt = false := fun m hmn => by
    rw [hxtxc, hztxc m hmn]
    exact ⟨afterExit_afterHeard _ _ _, (congrArg TxChan.doubt (afterHeard_eq _ _ _)).trans (hothers m hmn)⟩
  have hxst : x.station = .leaving := by rw [← hx]; exact hvst
  have hxrx : x.rx = s.rx := by rw [← hx]; exact hvrx
  have hxqueues : x.queues = z.queues := by rw [← hx, hframe]
  have hxdescs : x.descs = z.descs := by rw [← hx, hframe]
  have hleft : x.goOffline = { x.cutOff with
        tx := x.goOffline.tx, rx := x.goOffline.rx, descs := x.goOffline.descs, queues := x.goOffline.queues }
      ∧ EndedOffline n df .noAnswer ((s.txc n).tally + 1) h ms s x.goOffline := by
    obtain ⟨hdoubt, hzd, hzm, hqueues, hdescs⟩ | ⟨hdoubt, hqueue, hdesc⟩ := hzcase
    · refine goOffline_inDoubt hxst hidle hxrx hxothers hxexit ?_ ?_ ?_ hchain (hxqueues.trans hqueues) (hxdescs.trans hdescs)
      all_goals rw [hxtxc, afterHeard_eq]
      · exact hdoubt
      · exact hzd
      · exact hzm
    · refine goOffline_ended hxst hidle hxrx hxothers hxexit ?_ (fun q => ?_) fun e => ?_
      · rw [hxtxc, afterHeard_eq]
        exact hdoubt
      · exact (congrArg (look · q) hxqueues).trans (hqueue q)
      · exact (congrArg (look · e) hxdescs).trans (hdesc e)
  obtain ⟨hoff, hended⟩ := hleft
  have hcut : x.cutOff = { x with station := .offline, turn := turnOff x.turn } := by
    refine cutOff_quiet ?_ ?_
    · rw [← hx, hframe, hzframe]
      rfl
    · rw [← hx, hframe, hzframe]
      exact hrequest
  have hturn : turnOff x.turn = { turnOff s.turn with counter := if g = .pass b then b + 1 else b } := by
    rw [← hx]
    exact turnOff_opened hg (turnAfter s.turn)
  rw [hcut, hturn] at hoff
  generalize x.goOffline = o at *
  refine ⟨_, hexec, ?_, fun c => ?_, hended⟩
  · rw [hoff, ← hx, hframe, hzframe]
    rfl
  · rw [hoff, ← hx]
    refine (hroster c).trans ?_
    rw [rosterAfter, hzframe]
    rfl

end

/-- Settles O60: the outcome of the segment is taken, then the entry to OFFLINE fails a message in doubt and rewinds the others. -/
theorem leavingEndsWithOwnTurn : Obligations.LeavingEndsWithOwnTurn := by
  intro s n hst hrequest hown hout hactive hfrom off unanswered counters
  refine ⟨fun df h msgs parts hd hm hline htimer hattempts hends =>
    leavingEnds_byWindow hst hrequest hown hout hactive hfrom hd hm hline htimer hattempts hends,
    fun bytes df h ms hline hidle hothers hd hm hchain => ?_⟩
  intro ended since
  refine ⟨fun d code hcur hnext hcode hdecode => ?reply, fun g b hdecode hg => ?turnFrame⟩
  case reply =>
    exact leavingEnds_byReply hst hrequest hown hout hactive hfrom hline hidle hothers hd hm hchain hcur hnext hcode hdecode
  case turnFrame =>
    exact leavingEnds_byTurnFrame hst hrequest hown hout hactive hfrom hline hidle hothers hd hm hchain hdecode hg

end Sys2Proof.Machine
end

end
